-- ==== Sys2Proof/Word.lean ====
section
/-! DEFINITION. The bit-vector types of the machine: what the spec treats as bits (00_scope.md R12).
Everything that is a count, an index or an exact integer is a `Nat` or an `Int`. -/

namespace Sys2Proof

/-- One byte of memory (20_memory.md R75). -/
abbrev Byte := BitVec 8

/-- A register of the 32-bit modes (10_state.md R23). -/
abbrev Word := BitVec 32

/-- A register of the 64-bit mode, a vector cell, an address held wide enough for every mode
(10_state.md R25, R30, R42). -/
abbrev DWord := BitVec 64

/-- A 4-bit condition selector (40_condition_shifter.md R150). -/
abbrev Cond := BitVec 4

end Sys2Proof
end

