-- ==== Sys2Proof/Config.lean ====
section
/-! DEFINITION. What an implementation fixes: the parameters of 00_scope.md R10, the three execution modes and the
two privilege levels, all as plain data. -/

namespace Sys2Proof

/-- `mode`, the current-mode indicator (10_state.md R36). -/
inductive Mode where
  | f32
  | c16
  | w64
deriving DecidableEq, Repr

/-- `priv`, the user/privileged mode flag (10_state.md R38). -/
inductive Priv where
  | user
  | privileged
deriving DecidableEq, Repr

/-- `ENDIAN`, the byte order of every multi-byte access (20_memory.md R76). -/
inductive Endian where
  | little
  | big
deriving DecidableEq, Repr

/-- `MISALIGNED`, what the memory port does with a misaligned request (20_memory.md R79). -/
inductive Misaligned where
  | abort
  | allow
deriving DecidableEq, Repr

/-- `RESET_MODE`: `F32` or `W64`, never `C16` (70_reset_and_hazards.md R670). -/
inductive ResetMode where
  | f32
  | w64
deriving DecidableEq, Repr

def ResetMode.toMode : ResetMode → Mode
  | .f32 => .f32
  | .w64 => .w64

/-- `PC_STORE_OFFSET`: 8 or 12 (00_scope.md R10). -/
inductive PcStoreOffset where
  | eight
  | twelve
deriving DecidableEq, Repr

def PcStoreOffset.toWord : PcStoreOffset → Word
  | .eight => 8
  | .twelve => 12

/-- `DirectLinkAllowed(start, target)` as plain data: the default (same page as `start`), the two constant
predicates, and an explicit list of allowed pairs (00_scope.md R10, 49_block_control.md R607). -/
inductive LinkPolicy where
  | samePage
  | always
  | never
  | pairs (allowed : List (DWord × DWord))
deriving DecidableEq, Repr

/-- The parameters of 00_scope.md R10 that are plain values. `NVREG` = 16 and `VREG_BITS` = 64 are fixed and are the
type of the vector bank; `SysRegs` is the list of cells of the state; `ExceptionDelivery` is the argument of
`stepWith`. -/
structure Params where
  resetMode : ResetMode
  /-- `RESET_PC`, a multiple of 4. -/
  resetPc : DWord
  endian : Endian
  misaligned : Misaligned
  pcStoreOffset : PcStoreOffset
  /-- `PAGE_SIZE`, a power of two of at least 4. -/
  pageSize : Nat
  /-- `MAX_BLOCK_INSNS`, at least 1. -/
  maxBlockInsns : Nat
  linkPolicy : LinkPolicy
deriving DecidableEq, Repr

/-- The defaults of 00_scope.md R10. -/
def Params.default : Params where
  resetMode := .f32
  resetPc := 0
  endian := .little
  misaligned := .abort
  pcStoreOffset := .eight
  pageSize := 1024
  maxBlockInsns := 512
  linkPolicy := .samePage

/-- The domains of 00_scope.md R10; `RESET_PC` has the width of `pc` in `RESET_MODE` (10_state.md R25). -/
def Params.wf (p : Params) : Bool :=
  p.resetPc.toNat % 4 == 0 && (p.resetMode == .w64 || decide (p.resetPc.toNat < 2 ^ 32)) && decide (4 ≤ p.pageSize) &&
    p.pageSize == 2 ^ Nat.log2 p.pageSize && decide (1 ≤ p.maxBlockInsns)

end Sys2Proof
end

