-- ==== Sys2Proof/Machine/State.lean ====
section
/-! DEFINITION. The whole state of one context as plain data (10_state.md), what a raise carries (60_exceptions.md
R631, R636), what ends a block (49_block_control.md R600, R603, R607), the inputs the environment drives
(00_scope.md R11), and the machine right after reset (10_state.md R51, 70_reset_and_hazards.md R670). -/

namespace Sys2Proof.Machine

/-- The condition flags `N Z C V` and the sticky saturation flag `Q` (10_state.md R33): the only copy of them (R34). -/
structure Flags where
  n : Bool
  z : Bool
  c : Bool
  v : Bool
  q : Bool
deriving DecidableEq, Repr

/-- The fields of the vector control registers that hold state: `VCTL.EN`, `VFSR.IOC`, `VFSR.LEN`, `VFSR.STRIDE`,
`VSAT`, `VPRED` (10_state.md R44 to R47). -/
structure VecStatus where
  en : Bool
  ioc : Bool
  len : BitVec 3
  stride : BitVec 2
  sat : BitVec 8
  pred : BitVec 8
deriving DecidableEq, Repr

/-- The one lock that all contexts share (10_state.md R50): free, or held by another context. -/
inductive LockState where
  | free
  | held
deriving DecidableEq, Repr

/-- One privileged-state register behind coprocessor 15 (45_f32_branch_system.md R362): its 14-bit key, its value, its
two access flags, its write mask and its reset value. -/
structure SysCell where
  opc1 : BitVec 3
  crn : BitVec 4
  crm : BitVec 4
  opc2 : BitVec 3
  value : Word
  readable : Bool
  writable : Bool
  mask : Word
  resetValue : Word
deriving DecidableEq, Repr

/-- The kind of a request at the memory port (20_memory.md R70). -/
inductive AccessKind where
  | fetch
  | read
  | write
deriving DecidableEq, Repr

/-- A refused data request, as it travels with a `DataAbort` (60_exceptions.md R635). -/
structure Access where
  addr : DWord
  isWrite : Bool
  size : Nat
deriving DecidableEq, Repr

/-- The four causes (60_exceptions.md R636). -/
inductive Cause where
  | undef
  | debug
  | fetchAbort
  | dataAbort
deriving DecidableEq, Repr

/-- The cause codes (60_exceptions.md R636). -/
def Cause.code : Cause → Nat
  | .undef => 1
  | .debug => 2
  | .fetchAbort => 3
  | .dataAbort => 4

/-- The `Raise` operation: cause, address of the instruction, and for `DataAbort` the refused request
(60_exceptions.md R631, R635). -/
structure Raise where
  cause : Cause
  ia : DWord
  access : Option Access
deriving DecidableEq, Repr

/-- Why a block ended (49_block_control.md R600, R603). -/
inductive Reason where
  | none
  | branch
  | condBranch
  | page
  | maxInsns
  | singleStep
  | contextWrite
  | exception
deriving DecidableEq, Repr

/-- The exit of a block (49_block_control.md R607). -/
inductive ExitKind where
  | directLink (target : DWord)
  | generic
deriving DecidableEq, Repr

/-- The translation (decode) context of an open block (49_block_control.md R600). -/
structure Context where
  pc : DWord
  reason : Reason
  skip : Bool
  skipTarget : Option DWord
  mode : Mode
  priv : Priv
  en : Bool
  len : BitVec 3
  stride : BitVec 2
  itstate : BitVec 8
  start : DWord
  count : Nat
  bytes : Nat
deriving DecidableEq, Repr

/-- What a finished block hands to the environment (49_block_control.md R604, R607, R608). -/
structure BlockExit where
  reason : Reason
  exit : ExitKind
  start : DWord
  count : Nat
  bytes : Nat
deriving DecidableEq, Repr

/-- One rule of the memory system's `Abort(kind, addr, size, acc)` (20_memory.md R73): the requests it refuses; an
absent `kind`, `size` or `acc` matches every one. -/
structure AbortRule where
  kind : Option AccessKind
  first : DWord
  last : DWord
  size : Option Nat
  acc : Option Priv
deriving DecidableEq, Repr

/-- The inputs the environment drives while the machine runs (00_scope.md R11, 20_memory.md R73). -/
structure Env where
  breakpoints : List DWord
  singleStep : Bool
  abortRules : List AbortRule
deriving DecidableEq, Repr

/-- The architectural state of one context, the memory it reaches, the shared lock, the hidden decode context, and
the model's own fields: `raised`, `lastExit`, the parameters `cfg` and the inputs `env`. -/
structure State where
  /-- `r[0]` to `r[14]` of the 32-bit modes (10_state.md R23). -/
  r : Vector Word 15
  /-- `x[0]` to `x[30]` of W64 (10_state.md R30). -/
  x : Vector DWord 31
  /-- The stack pointer of W64 (10_state.md R30). -/
  sp : DWord
  /-- The program counter (10_state.md R25); its upper half is 0 in F32 and C16. -/
  pc : DWord
  flags : Flags
  mode : Mode
  priv : Priv
  /-- The C16 conditional-execution group state (10_state.md R39). -/
  itstate : BitVec 8
  /-- The vector bank `v[0]` to `v[15]` (10_state.md R42). -/
  vec : Vector DWord 16
  vstat : VecStatus
  lock : LockState
  /-- The privileged-state registers that the environment configured (45_f32_branch_system.md R362). -/
  sysRegs : List SysCell
  /-- Memory, in canonical form (20_memory.md R81). -/
  mem : List Host.Cell
  /-- The open block's decode context, if a block is open (10_state.md R49). -/
  ctx : Option Context
  /-- The model's: the exit of the last finished block. -/
  lastExit : Option BlockExit
  /-- The model's: a raise handed to `ExceptionDelivery` and not yet delivered (60_exceptions.md R637). -/
  raised : Option Raise
  /-- The parameters, constant from reset on (00_scope.md R10). -/
  cfg : Params
  /-- The inputs (00_scope.md R11). -/
  env : Env
deriving DecidableEq, Repr

/-- How the machine stops. -/
inductive Fault where
  /-- `ExceptionDelivery` answered `Halt` to the pending raise: raised by `stepWith` alone, in the step after the one
  that took the exception (60_exceptions.md R637). Safe: the spec's default delivery ends the run there. -/
  | halted (cause : Cause)
deriving DecidableEq, Repr

/-- Why an instruction has no meaning. -/
inductive Refusal where
  /-- The instruction of this mnemonic has no meaning yet: raised by an arm of `exec`; no arm is left so. Safe. -/
  | notModelled (mnemonic : String)
deriving DecidableEq, Repr

/-- The flags after reset (10_state.md R51). -/
def Flags.reset : Flags := ⟨false, false, false, false, false⟩

/-- The vector status after reset: the unit is disabled (10_state.md R51). -/
def VecStatus.reset : VecStatus := ⟨false, false, 0, 0, 0, 0⟩

/-- A cell at its configured reset value (70_reset_and_hazards.md R670 step 2). -/
def SysCell.atReset (c : SysCell) : SysCell := { c with value := c.resetValue }

/-- Reset with parameters `p`, memory as the environment loaded it and the cells it configured
(70_reset_and_hazards.md R670). -/
def State.resetWith (p : Params) (mem : List Host.Cell) (cells : List SysCell) : State where
  r := Vector.replicate 15 0
  x := Vector.replicate 31 0
  sp := 0
  pc := p.resetPc
  flags := .reset
  mode := p.resetMode.toMode
  priv := .privileged
  itstate := 0
  vec := Vector.replicate 16 0
  vstat := .reset
  lock := .free
  sysRegs := cells.map SysCell.atReset
  mem := mem
  ctx := none
  lastExit := none
  raised := none
  cfg := p
  env := ⟨[], false, []⟩

/-- The machine right after reset with the default parameters, nothing listed in memory and no privileged-state
register (00_scope.md R10, 10_state.md R51). -/
def State.reset : State := State.resetWith Params.default [] []

end Sys2Proof.Machine
end

