-- ==== Sys2Proof/Machine/Flags.lean ====
section
/-! DEFINITION. The condition evaluator, the flag-writing rules and the packed views of the flags
(40_condition_shifter.md R150 to R161, 10_state.md R40, R41). -/

namespace Sys2Proof.Machine

/-- `ConditionPassed` (40_condition_shifter.md R150, R151); the reserved selector `1111` is true (R152). -/
def Flags.condPassed (f : Flags) (c : Cond) : Bool :=
  match c.toNat with
  | 0 => f.z
  | 1 => !f.z
  | 2 => f.c
  | 3 => !f.c
  | 4 => f.n
  | 5 => !f.n
  | 6 => f.v
  | 7 => !f.v
  | 8 => f.c && !f.z
  | 9 => !f.c || f.z
  | 10 => f.n == f.v
  | 11 => f.n != f.v
  | 12 => !f.z && f.n == f.v
  | 13 => f.z || f.n != f.v
  | _ => true

/-- `SetNZ(res)` at any width (40_condition_shifter.md R161). -/
def Flags.setNZ {w : Nat} (f : Flags) (res : BitVec w) : Flags := { f with n := res.msb, z := res == 0 }

/-- The logical rule: `N`, `Z` from the result, `C` from the shifter, `V` unchanged (R161). -/
def Flags.logical {w : Nat} (f : Flags) (res : BitVec w) (shifterCarry : Bool) : Flags :=
  { f.setNZ res with c := shifterCarry }

/-- The arithmetic rule: `N`, `Z` from the result, `C` and `V` of the addition (R161). -/
def Flags.arithmetic {w : Nat} (f : Flags) (res : BitVec w) (carry overflow : Bool) : Flags :=
  { f.setNZ res with c := carry, v := overflow }

/-- `N Z C V` replaced, `Q` kept. -/
def Flags.withNZCV (f : Flags) (n z c v : Bool) : Flags := { f with n := n, z := z, c := c, v := v }

/-- `Q` set if a clamp happened, else as it was (10_state.md R35). -/
def Flags.stickyQ (f : Flags) (sat : Bool) : Flags := { f with q := f.q || sat }

/-- `N Z C V Q` from bits 31 to 27 of a word (10_state.md R40). -/
def Flags.ofSR (v : Word) : Flags := ⟨v[31], v[30], v[29], v[28], v[27]⟩

/-- The view `SR` (10_state.md R40). -/
def State.sr (s : State) : Word :=
  BitVec.ofNat 32 (s.flags.n.toNat * 2 ^ 31 + s.flags.z.toNat * 2 ^ 30 + s.flags.c.toNat * 2 ^ 29
    + s.flags.v.toNat * 2 ^ 28 + s.flags.q.toNat * 2 ^ 27 + (decide (s.mode = .c16)).toNat * 2 ^ 5
    + (match s.priv with
      | .user => 0x10
      | .privileged => 0x13))

/-- The view `PSTATE` (10_state.md R41). -/
def State.pstate (s : State) : DWord :=
  BitVec.ofNat 64 (s.flags.n.toNat * 2 ^ 31 + s.flags.z.toNat * 2 ^ 30 + s.flags.c.toNat * 2 ^ 29
    + s.flags.v.toNat * 2 ^ 28)

/-- Writing `PSTATE`: the four flags from bits 31 to 28, every other bit ignored (10_state.md R41). -/
def Flags.withPstate (f : Flags) (v : DWord) : Flags := f.withNZCV v[31] v[30] v[29] v[28]

/-- The views of the four vector control registers (10_state.md R44 to R47). -/
def VecStatus.vctl (v : VecStatus) : Word := BitVec.ofNat 32 v.en.toNat

def VecStatus.vfsr (v : VecStatus) : Word :=
  BitVec.ofNat 32 (v.ioc.toNat + v.len.toNat * 2 ^ 8 + v.stride.toNat * 2 ^ 12)

def VecStatus.vsat (v : VecStatus) : Word := v.sat.setWidth 32

def VecStatus.vpred (v : VecStatus) : Word := v.pred.setWidth 32

end Sys2Proof.Machine
end

