-- ==== Sys2Proof/Machine/Memory.lean ====
section
/-! DEFINITION. Memory as a sorted list of (address, byte) pairs and the placement of multi-byte values in it
(20_memory.md R75 to R81). -/

namespace Sys2Proof.Machine

/-- What an address that is not listed reads as: DESIGN CHOICE, unsafe (assumption log 1); the spec makes the initial
content an argument of the model (20_memory.md R81). -/
def Memory.unlisted : Byte := 0

/-- The byte at an address. -/
def Memory.get : List Host.Cell → Nat → Byte
  | [], _ => Memory.unlisted
  | (k, b) :: m, a => if k = a then b else Memory.get m a

/-- Writes one byte and keeps the canonical form: the entry goes to its place in the order, and the value an unlisted
address reads as is stored by removing the entry. -/
def Memory.set : List Host.Cell → Nat → Byte → List Host.Cell
  | [], a, v => if v = Memory.unlisted then [] else [(a, v)]
  | (k, b) :: m, a, v =>
    if a < k then (if v = Memory.unlisted then (k, b) :: m else (a, v) :: (k, b) :: m)
    else if a = k then (if v = Memory.unlisted then m else (a, v) :: m)
    else (k, b) :: Memory.set m a v

/-- The entries are at rising addresses from `lo` on, below 2^64, and none holds the value of an unlisted address. -/
def Memory.wfFrom : Nat → List Host.Cell → Bool
  | _, [] => true
  | lo, (k, b) :: m => decide (lo ≤ k) && decide (k < 2 ^ 64) && decide (b ≠ Memory.unlisted) && Memory.wfFrom (k + 1) m

/-- The canonical form. -/
def Memory.wf (m : List Host.Cell) : Bool := Memory.wfFrom 0 m

/-- The address of byte `v[8i+7:8i]` of an access of `n` bytes at `a`, in an address space of `bits` bits
(20_memory.md R76, R83). -/
def Memory.byteAddr (e : Endian) (bits a n i : Nat) : Nat :=
  match e with
  | .little => (a + i) % 2 ^ bits
  | .big => (a + n - 1 - i) % 2 ^ bits

/-- Bytes 0 to `k - 1` of the value of an access of `n` bytes at `a`. -/
def Memory.loadUpTo (m : List Host.Cell) (e : Endian) (bits a n : Nat) : Nat → Nat
  | 0 => 0
  | k + 1 => Memory.loadUpTo m e bits a n k + (Memory.get m (Memory.byteAddr e bits a n k)).toNat * 256 ^ k

/-- The value of the `n` bytes at `a` (20_memory.md R76). -/
def Memory.load (m : List Host.Cell) (e : Endian) (bits a n : Nat) : Nat := Memory.loadUpTo m e bits a n n

/-- Stores bytes 0 to `k - 1` of `v`, an access of `n` bytes at `a`. -/
def Memory.storeUpTo (m : List Host.Cell) (e : Endian) (bits a n v : Nat) : Nat → List Host.Cell
  | 0 => m
  | k + 1 =>
    Memory.set (Memory.storeUpTo m e bits a n v k) (Memory.byteAddr e bits a n k) (BitVec.ofNat 8 (v / 256 ^ k))

/-- Stores the low `8n` bits of `v` at `a` (20_memory.md R71, R76). -/
def Memory.store (m : List Host.Cell) (e : Endian) (bits a n v : Nat) : List Host.Cell :=
  Memory.storeUpTo m e bits a n v n

end Sys2Proof.Machine
end

