-- ==== Sys2Proof/Syntax.lean ====
section
/-! DEFINITION. The instructions: every row of spec/opcode_table.json, each with the fields of its format
(30_encoding.md R103 to R128). A constructor's name is the encoding (`f32`, `c16`, `w64`), the mnemonic and, where a
mnemonic of one encoding has several rows, the format. The three operand forms of an F32 data-processing instruction
(formats F32.DPI, F32.DPR, F32.DPRS, one rule R254 to R269 for the three) and the three address forms of a W64
single-register load or store (W64.LSU, W64.LS9, W64.LSX, one rule R566 to R578 for the three) are alternatives of one
constructor's operand: Lean compiles no inductive of more than 244 constructors that hold data, and the table has 297
rows. Register numbers are `Fin`, single bits are `Bool`, immediates are bit vectors. -/

namespace Sys2Proof

/-- The four shift types of a 2-bit `stype` or `shift` field (40_condition_shifter.md R154, 48_w64.md R513). -/
inductive ShiftKind where
  | lsl
  | lsr
  | asr
  | ror
deriving DecidableEq, Repr

/-- The second operand of an F32 data-processing instruction: `#imm` (F32.DPI, R105), a register shifted by an
immediate (F32.DPR, R106), a register shifted by a register (F32.DPRS, R107). -/
inductive F32.Op2 where
  | imm (rot : BitVec 4) (imm8 : BitVec 8)
  | reg (shamt : BitVec 5) (stype : ShiftKind) (rm : Fin 16)
  | regShift (rs : Fin 16) (stype : ShiftKind) (rm : Fin 16)
deriving DecidableEq, Repr

/-- The address of a W64 single-register load or store (R127): unsigned scaled offset (W64.LSU), signed 9-bit offset
with `idx` (W64.LS9), register offset (W64.LSX). -/
inductive W64.Addr where
  | unsigned (imm12 : BitVec 12)
  | signed (imm9 : BitVec 9) (idx : BitVec 2)
  | reg (rm : Fin 32) (option : BitVec 3) (s : Bool)
deriving DecidableEq, Repr

/-- Format `F32.DP` (30_encoding.md R105 to R107): the twelve data-processing opcodes that write `Rd`. -/
structure F32.DP where
  cond : Cond
  s : Bool
  rn : Fin 16
  rd : Fin 16
  op2 : F32.Op2
deriving DecidableEq, Repr

/-- Format `F32.DPC` (30_encoding.md R105 to R107): the four compare opcodes, whose `S` bit is fixed at 1. -/
structure F32.DPC where
  cond : Cond
  rn : Fin 16
  rd : Fin 16
  op2 : F32.Op2
deriving DecidableEq, Repr

/-- Format `F32.MUL` (30_encoding.md R108): `MUL`; bits 15:12 are ignored (R133). -/
structure F32.MUL where
  cond : Cond
  s : Bool
  rd : Fin 16
  rs : Fin 16
  rm : Fin 16
deriving DecidableEq, Repr

/-- Format `F32.MLA` (30_encoding.md R108): `MLA`. -/
structure F32.MLA where
  cond : Cond
  s : Bool
  rd : Fin 16
  rn : Fin 16
  rs : Fin 16
  rm : Fin 16
deriving DecidableEq, Repr

/-- Format `F32.MULL` (30_encoding.md R108): the four long multiplies. -/
structure F32.MULL where
  cond : Cond
  s : Bool
  rdHi : Fin 16
  rdLo : Fin 16
  rs : Fin 16
  rm : Fin 16
deriving DecidableEq, Repr

/-- Format `F32.SWP` (30_encoding.md R109): `SWP`, `SWPB`. -/
structure F32.SWP where
  cond : Cond
  rn : Fin 16
  rd : Fin 16
  rm : Fin 16
deriving DecidableEq, Repr

/-- Format `F32.SAT` (30_encoding.md R109): `QADD`, `QSUB`, `QDADD`, `QDSUB`. -/
structure F32.SAT where
  cond : Cond
  rn : Fin 16
  rd : Fin 16
  rm : Fin 16
deriving DecidableEq, Repr

/-- Format `F32.MRS` (30_encoding.md R109): `MRS`. -/
structure F32.MRS where
  cond : Cond
  rd : Fin 16
deriving DecidableEq, Repr

/-- Format `F32.MSR` (30_encoding.md R109): `MSR`, register. -/
structure F32.MSR where
  cond : Cond
  fmask : BitVec 4
  rm : Fin 16
deriving DecidableEq, Repr

/-- Format `F32.MSRI` (30_encoding.md R109): `MSR`, immediate. -/
structure F32.MSRI where
  cond : Cond
  fmask : BitVec 4
  rot : BitVec 4
  imm8 : BitVec 8
deriving DecidableEq, Repr

/-- Format `F32.BXR` (30_encoding.md R109): `BX`, `BLX`, register. -/
structure F32.BXR where
  cond : Cond
  rm : Fin 16
deriving DecidableEq, Repr

/-- Format `F32.LSHI` (30_encoding.md R110): halfword, signed and doubleword load/store, immediate offset (`imm4H:imm4L`). -/
structure F32.LSHI where
  cond : Cond
  p : Bool
  u : Bool
  w : Bool
  rn : Fin 16
  rd : Fin 16
  imm8 : BitVec 8
deriving DecidableEq, Repr

/-- Format `F32.LSHR` (30_encoding.md R110): the same, register offset. -/
structure F32.LSHR where
  cond : Cond
  p : Bool
  u : Bool
  w : Bool
  rn : Fin 16
  rd : Fin 16
  rm : Fin 16
deriving DecidableEq, Repr

/-- Format `F32.LSI` (30_encoding.md R111): word and byte load/store, immediate offset. -/
structure F32.LSI where
  cond : Cond
  p : Bool
  u : Bool
  w : Bool
  rn : Fin 16
  rd : Fin 16
  imm12 : BitVec 12
deriving DecidableEq, Repr

/-- Format `F32.LSR` (30_encoding.md R111): word and byte load/store, shifted register offset. -/
structure F32.LSR where
  cond : Cond
  p : Bool
  u : Bool
  w : Bool
  rn : Fin 16
  rd : Fin 16
  shamt : BitVec 5
  stype : ShiftKind
  rm : Fin 16
deriving DecidableEq, Repr

/-- Format `F32.LSIT` (30_encoding.md R111): the user-access forms, immediate offset (`P = 0`, `W = 1`). -/
structure F32.LSIT where
  cond : Cond
  u : Bool
  rn : Fin 16
  rd : Fin 16
  imm12 : BitVec 12
deriving DecidableEq, Repr

/-- Format `F32.LSRT` (30_encoding.md R111): the user-access forms, register offset. -/
structure F32.LSRT where
  cond : Cond
  u : Bool
  rn : Fin 16
  rd : Fin 16
  shamt : BitVec 5
  stype : ShiftKind
  rm : Fin 16
deriving DecidableEq, Repr

/-- Format `F32.LSM` (30_encoding.md R112): multiple-register load/store. -/
structure F32.LSM where
  cond : Cond
  p : Bool
  u : Bool
  s : Bool
  w : Bool
  rn : Fin 16
  reglist : BitVec 16
deriving DecidableEq, Repr

/-- Format `F32.BR` (30_encoding.md R113): `B`, `BL`. -/
structure F32.BR where
  cond : Cond
  imm24 : BitVec 24
deriving DecidableEq, Repr

/-- Format `F32.BLXI` (30_encoding.md R113): `BLX`, immediate. -/
structure F32.BLXI where
  h : Bool
  imm24 : BitVec 24
deriving DecidableEq, Repr

/-- Format `F32.VOP` (30_encoding.md R114): vector lane operations. -/
structure F32.VOP where
  cond : Cond
  vn : Fin 16
  vd : Fin 16
  u : Bool
  sz : BitVec 2
  vm : Fin 16
deriving DecidableEq, Repr

/-- Format `F32.VXFER` (30_encoding.md R114): two general registers to or from a vector register. -/
structure F32.VXFER where
  cond : Cond
  rt2 : Fin 16
  rt : Fin 16
  vm : Fin 16
deriving DecidableEq, Repr

/-- Format `F32.VCTL` (30_encoding.md R114): vector control registers. -/
structure F32.VCTL where
  cond : Cond
  vcn : BitVec 4
  rt : Fin 16
deriving DecidableEq, Repr

/-- Format `F32.VLS` (30_encoding.md R114): vector load/store. -/
structure F32.VLS where
  cond : Cond
  p : Bool
  u : Bool
  w : Bool
  rn : Fin 16
  vd : Fin 16
  imm8 : BitVec 8
deriving DecidableEq, Repr

/-- Format `F32.SYS` (30_encoding.md R114): privileged-state-register access. -/
structure F32.SYS where
  cond : Cond
  opc1 : BitVec 3
  crn : BitVec 4
  rt : Fin 16
  opc2 : BitVec 3
  crm : BitVec 4
deriving DecidableEq, Repr

/-- Format `C16.SHI` (30_encoding.md R117). -/
structure C16.SHI where
  imm5 : BitVec 5
  rm : Fin 8
  rd : Fin 8
deriving DecidableEq, Repr

/-- Format `C16.AS3` (30_encoding.md R117). -/
structure C16.AS3 where
  rm : Fin 8
  rn : Fin 8
  rd : Fin 8
deriving DecidableEq, Repr

/-- Format `C16.AS3I` (30_encoding.md R117). -/
structure C16.AS3I where
  imm3 : BitVec 3
  rn : Fin 8
  rd : Fin 8
deriving DecidableEq, Repr

/-- Format `C16.I8` (30_encoding.md R117). -/
structure C16.I8 where
  rd : Fin 8
  imm8 : BitVec 8
deriving DecidableEq, Repr

/-- Format `C16.ALU` (30_encoding.md R118). -/
structure C16.ALU where
  rm : Fin 8
  rdn : Fin 8
deriving DecidableEq, Repr

/-- Format `C16.HI` (30_encoding.md R118): high-register operations; `d` is `H:Rdn`. -/
structure C16.HI where
  rm : Fin 16
  d : Fin 16
deriving DecidableEq, Repr

/-- Format `C16.BXR` (30_encoding.md R118): `BX`, `BLX`; bits 2:0 are ignored (R133). -/
structure C16.BXR where
  rm : Fin 16
deriving DecidableEq, Repr

/-- Format `C16.LIT` (30_encoding.md R119). -/
structure C16.LIT where
  rd : Fin 8
  imm8 : BitVec 8
deriving DecidableEq, Repr

/-- Format `C16.LSR` (30_encoding.md R119). -/
structure C16.LSR where
  rm : Fin 8
  rn : Fin 8
  rd : Fin 8
deriving DecidableEq, Repr

/-- Format `C16.LSI` (30_encoding.md R119). -/
structure C16.LSI where
  imm5 : BitVec 5
  rn : Fin 8
  rd : Fin 8
deriving DecidableEq, Repr

/-- Format `C16.SPR` (30_encoding.md R119). -/
structure C16.SPR where
  rd : Fin 8
  imm8 : BitVec 8
deriving DecidableEq, Repr

/-- Format `C16.ADR` (30_encoding.md R119). -/
structure C16.ADR where
  rd : Fin 8
  imm8 : BitVec 8
deriving DecidableEq, Repr

/-- Format `C16.SPA` (30_encoding.md R119). -/
structure C16.SPA where
  imm7 : BitVec 7
deriving DecidableEq, Repr

/-- Format `C16.PP` (30_encoding.md R120). -/
structure C16.PP where
  r : Bool
  reglist : BitVec 8
deriving DecidableEq, Repr

/-- Format `C16.IT` (30_encoding.md R120). -/
structure C16.IT where
  firstcond : Cond
  mask : BitVec 4
deriving DecidableEq, Repr

/-- Format `C16.LSM` (30_encoding.md R120). -/
structure C16.LSM where
  rn : Fin 8
  reglist : BitVec 8
deriving DecidableEq, Repr

/-- Format `C16.BC` (30_encoding.md R121). -/
structure C16.BC where
  cond : Cond
  imm8 : BitVec 8
deriving DecidableEq, Repr

/-- Format `C16.B` (30_encoding.md R121). -/
structure C16.B where
  imm11 : BitVec 11
deriving DecidableEq, Repr

/-- Format `C16.BL1` (30_encoding.md R121): the `BL` prefix. -/
structure C16.BL1 where
  imm11 : BitVec 11
deriving DecidableEq, Repr

/-- Format `C16.BL2` (30_encoding.md R121): the `BL` suffix. -/
structure C16.BL2 where
  imm11 : BitVec 11
deriving DecidableEq, Repr

/-- Format `C16.BL2X` (30_encoding.md R121): the `BLX` suffix. -/
structure C16.BL2X where
  imm10 : BitVec 10
deriving DecidableEq, Repr

/-- Format `W64.ASI` (30_encoding.md R124). -/
structure W64.ASI where
  sf : Bool
  sh : Bool
  imm12 : BitVec 12
  rn : Fin 32
  rd : Fin 32
deriving DecidableEq, Repr

/-- Format `W64.ASR` (30_encoding.md R124). -/
structure W64.ASR where
  sf : Bool
  shift : ShiftKind
  rm : Fin 32
  imm6 : BitVec 6
  rn : Fin 32
  rd : Fin 32
deriving DecidableEq, Repr

/-- Format `W64.LOGR` (30_encoding.md R124). -/
structure W64.LOGR where
  sf : Bool
  shift : ShiftKind
  rm : Fin 32
  imm6 : BitVec 6
  rn : Fin 32
  rd : Fin 32
deriving DecidableEq, Repr

/-- Format `W64.MOVW` (30_encoding.md R124). -/
structure W64.MOVW where
  sf : Bool
  hw : BitVec 2
  imm16 : BitVec 16
  rd : Fin 32
deriving DecidableEq, Repr

/-- Format `W64.ADR` (30_encoding.md R124): `ADR`, `ADRP`; `imm21` is `immhi:immlo`. -/
structure W64.ADR where
  imm21 : BitVec 21
  rd : Fin 32
deriving DecidableEq, Repr

/-- Format `W64.BI` (30_encoding.md R125). -/
structure W64.BI where
  imm26 : BitVec 26
deriving DecidableEq, Repr

/-- Format `W64.BC` (30_encoding.md R125). -/
structure W64.BC where
  imm19 : BitVec 19
  cond : Cond
deriving DecidableEq, Repr

/-- Format `W64.CB` (30_encoding.md R125). -/
structure W64.CB where
  sf : Bool
  imm19 : BitVec 19
  rt : Fin 32
deriving DecidableEq, Repr

/-- Format `W64.TB` (30_encoding.md R125): `TBZ`, `TBNZ`; `bit` is `b5:b40`. -/
structure W64.TB where
  bit : BitVec 6
  imm14 : BitVec 14
  rt : Fin 32
deriving DecidableEq, Repr

/-- Format `W64.BREG` (30_encoding.md R125). -/
structure W64.BREG where
  rn : Fin 32
deriving DecidableEq, Repr

/-- Format `W64.CSEL` (30_encoding.md R126). -/
structure W64.CSEL where
  sf : Bool
  rm : Fin 32
  cond : Cond
  rn : Fin 32
  rd : Fin 32
deriving DecidableEq, Repr

/-- Format `W64.DP2` (30_encoding.md R126). -/
structure W64.DP2 where
  sf : Bool
  rm : Fin 32
  rn : Fin 32
  rd : Fin 32
deriving DecidableEq, Repr

/-- Format `W64.DP3` (30_encoding.md R126). -/
structure W64.DP3 where
  sf : Bool
  rm : Fin 32
  ra : Fin 32
  rn : Fin 32
  rd : Fin 32
deriving DecidableEq, Repr

/-- Format `W64.DP3L` (30_encoding.md R126): the long multiplies. -/
structure W64.DP3L where
  rm : Fin 32
  ra : Fin 32
  rn : Fin 32
  rd : Fin 32
deriving DecidableEq, Repr

/-- Format `W64.MULH` (30_encoding.md R126): `SMULH`, `UMULH`; bits 14:10 are ignored (R133). -/
structure W64.MULH where
  rm : Fin 32
  rn : Fin 32
  rd : Fin 32
deriving DecidableEq, Repr

/-- Format `W64.LS` (30_encoding.md R127): the single-register loads and stores. -/
structure W64.LS where
  rn : Fin 32
  rt : Fin 32
  addr : W64.Addr
deriving DecidableEq, Repr

/-- Format `W64.LIT` (30_encoding.md R127). -/
structure W64.LIT where
  imm19 : BitVec 19
  rt : Fin 32
deriving DecidableEq, Repr

/-- Format `W64.LSP` (30_encoding.md R127). -/
structure W64.LSP where
  sf : Bool
  idx : BitVec 2
  imm7 : BitVec 7
  rt2 : Fin 32
  rn : Fin 32
  rt : Fin 32
deriving DecidableEq, Repr

/-- Format `W64.SYS` (30_encoding.md R128): `MRS`, `MSR`. -/
structure W64.SYS where
  rt : Fin 32
deriving DecidableEq, Repr

/-- The instructions of the three encodings, in the order of spec/opcode_table.json. -/
inductive Instr where
  /-- `AND`, F32.DPI, F32.DPR, F32.DPRS, R254. -/
  | f32And (f : F32.DP)
  /-- `EOR`, F32.DPI, F32.DPR, F32.DPRS, R255. -/
  | f32Eor (f : F32.DP)
  /-- `SUB`, F32.DPI, F32.DPR, F32.DPRS, R256. -/
  | f32Sub (f : F32.DP)
  /-- `RSB`, F32.DPI, F32.DPR, F32.DPRS, R257. -/
  | f32Rsb (f : F32.DP)
  /-- `ADD`, F32.DPI, F32.DPR, F32.DPRS, R258. -/
  | f32Add (f : F32.DP)
  /-- `ADC`, F32.DPI, F32.DPR, F32.DPRS, R259. -/
  | f32Adc (f : F32.DP)
  /-- `SBC`, F32.DPI, F32.DPR, F32.DPRS, R260. -/
  | f32Sbc (f : F32.DP)
  /-- `RSC`, F32.DPI, F32.DPR, F32.DPRS, R261. -/
  | f32Rsc (f : F32.DP)
  /-- `TST`, F32.DPI, F32.DPR, F32.DPRS, R262. -/
  | f32Tst (f : F32.DPC)
  /-- `TEQ`, F32.DPI, F32.DPR, F32.DPRS, R263. -/
  | f32Teq (f : F32.DPC)
  /-- `CMP`, F32.DPI, F32.DPR, F32.DPRS, R264. -/
  | f32Cmp (f : F32.DPC)
  /-- `CMN`, F32.DPI, F32.DPR, F32.DPRS, R265. -/
  | f32Cmn (f : F32.DPC)
  /-- `ORR`, F32.DPI, F32.DPR, F32.DPRS, R266. -/
  | f32Orr (f : F32.DP)
  /-- `MOV`, F32.DPI, F32.DPR, F32.DPRS, R267. -/
  | f32Mov (f : F32.DP)
  /-- `BIC`, F32.DPI, F32.DPR, F32.DPRS, R268. -/
  | f32Bic (f : F32.DP)
  /-- `MVN`, F32.DPI, F32.DPR, F32.DPRS, R269. -/
  | f32Mvn (f : F32.DP)
  /-- `MUL`, F32.MUL, R271. -/
  | f32MulMul (f : F32.MUL)
  /-- `MLA`, F32.MUL, R272. -/
  | f32MlaMul (f : F32.MLA)
  /-- `UMULL`, F32.MULL, R273. -/
  | f32UmullMull (f : F32.MULL)
  /-- `UMLAL`, F32.MULL, R274. -/
  | f32UmlalMull (f : F32.MULL)
  /-- `SMULL`, F32.MULL, R275. -/
  | f32SmullMull (f : F32.MULL)
  /-- `SMLAL`, F32.MULL, R276. -/
  | f32SmlalMull (f : F32.MULL)
  /-- `SWP`, F32.SWP, R330. -/
  | f32SwpSwp (f : F32.SWP)
  /-- `SWPB`, F32.SWP, R331. -/
  | f32SwpbSwp (f : F32.SWP)
  /-- `MRS`, F32.MISC, R289. -/
  | f32MrsMisc (f : F32.MRS)
  /-- `MSR`, F32.MISC, R290. -/
  | f32MsrMisc (f : F32.MSR)
  /-- `MSR`, F32.MSRI, R290. -/
  | f32MsrMsri (f : F32.MSRI)
  /-- `BX`, F32.MISC, R344. -/
  | f32BxMisc (f : F32.BXR)
  /-- `BLX`, F32.MISC, R346. -/
  | f32BlxMisc (f : F32.BXR)
  /-- `QADD`, F32.SAT, R281. -/
  | f32QaddSat (f : F32.SAT)
  /-- `QSUB`, F32.SAT, R282. -/
  | f32QsubSat (f : F32.SAT)
  /-- `QDADD`, F32.SAT, R283. -/
  | f32QdaddSat (f : F32.SAT)
  /-- `QDSUB`, F32.SAT, R284. -/
  | f32QdsubSat (f : F32.SAT)
  /-- `STRH`, F32.LSHI, R307. -/
  | f32StrhLshi (f : F32.LSHI)
  /-- `STRH`, F32.LSHR, R307. -/
  | f32StrhLshr (f : F32.LSHR)
  /-- `LDRD`, F32.LSHI, R310. -/
  | f32LdrdLshi (f : F32.LSHI)
  /-- `LDRD`, F32.LSHR, R310. -/
  | f32LdrdLshr (f : F32.LSHR)
  /-- `STRD`, F32.LSHI, R311. -/
  | f32StrdLshi (f : F32.LSHI)
  /-- `STRD`, F32.LSHR, R311. -/
  | f32StrdLshr (f : F32.LSHR)
  /-- `LDRH`, F32.LSHI, R306. -/
  | f32LdrhLshi (f : F32.LSHI)
  /-- `LDRH`, F32.LSHR, R306. -/
  | f32LdrhLshr (f : F32.LSHR)
  /-- `LDRSB`, F32.LSHI, R308. -/
  | f32LdrsbLshi (f : F32.LSHI)
  /-- `LDRSB`, F32.LSHR, R308. -/
  | f32LdrsbLshr (f : F32.LSHR)
  /-- `LDRSH`, F32.LSHI, R309. -/
  | f32LdrshLshi (f : F32.LSHI)
  /-- `LDRSH`, F32.LSHR, R309. -/
  | f32LdrshLshr (f : F32.LSHR)
  /-- `STR`, F32.LSI, R303. -/
  | f32StrLsi (f : F32.LSI)
  /-- `STR`, F32.LSR, R303. -/
  | f32StrLsr (f : F32.LSR)
  /-- `STRT`, F32.LSI, R313. -/
  | f32StrtLsi (f : F32.LSIT)
  /-- `STRT`, F32.LSR, R313. -/
  | f32StrtLsr (f : F32.LSRT)
  /-- `LDR`, F32.LSI, R302. -/
  | f32LdrLsi (f : F32.LSI)
  /-- `LDR`, F32.LSR, R302. -/
  | f32LdrLsr (f : F32.LSR)
  /-- `LDRT`, F32.LSI, R312. -/
  | f32LdrtLsi (f : F32.LSIT)
  /-- `LDRT`, F32.LSR, R312. -/
  | f32LdrtLsr (f : F32.LSRT)
  /-- `STRB`, F32.LSI, R305. -/
  | f32StrbLsi (f : F32.LSI)
  /-- `STRB`, F32.LSR, R305. -/
  | f32StrbLsr (f : F32.LSR)
  /-- `STRBT`, F32.LSI, R315. -/
  | f32StrbtLsi (f : F32.LSIT)
  /-- `STRBT`, F32.LSR, R315. -/
  | f32StrbtLsr (f : F32.LSRT)
  /-- `LDRB`, F32.LSI, R304. -/
  | f32LdrbLsi (f : F32.LSI)
  /-- `LDRB`, F32.LSR, R304. -/
  | f32LdrbLsr (f : F32.LSR)
  /-- `LDRBT`, F32.LSI, R314. -/
  | f32LdrbtLsi (f : F32.LSIT)
  /-- `LDRBT`, F32.LSR, R314. -/
  | f32LdrbtLsr (f : F32.LSRT)
  /-- `STM`, F32.LSM, R322. -/
  | f32StmLsm (f : F32.LSM)
  /-- `LDM`, F32.LSM, R321. -/
  | f32LdmLsm (f : F32.LSM)
  /-- `B`, F32.BR, R342. -/
  | f32BBr (f : F32.BR)
  /-- `BL`, F32.BR, R343. -/
  | f32BlBr (f : F32.BR)
  /-- `BLX`, F32.BLXI, R345. -/
  | f32BlxBlxi (f : F32.BLXI)
  /-- `VADD`, F32.VOP, R390. -/
  | f32VaddVop (f : F32.VOP)
  /-- `VSUB`, F32.VOP, R391. -/
  | f32VsubVop (f : F32.VOP)
  /-- `VQADD`, F32.VOP, R392. -/
  | f32VqaddVop (f : F32.VOP)
  /-- `VQSUB`, F32.VOP, R393. -/
  | f32VqsubVop (f : F32.VOP)
  /-- `VSHR`, F32.VOP, R394. -/
  | f32VshrVop (f : F32.VOP)
  /-- `VRSHR`, F32.VOP, R395. -/
  | f32VrshrVop (f : F32.VOP)
  /-- `VMULLB`, F32.VOP, R396. -/
  | f32VmullbVop (f : F32.VOP)
  /-- `VMULLT`, F32.VOP, R397. -/
  | f32VmulltVop (f : F32.VOP)
  /-- `VDOT`, F32.VOP, R398. -/
  | f32VdotVop (f : F32.VOP)
  /-- `VDOTA`, F32.VOP, R399. -/
  | f32VdotaVop (f : F32.VOP)
  /-- `VMULH`, F32.VOP, R400. -/
  | f32VmulhVop (f : F32.VOP)
  /-- `VRMULH`, F32.VOP, R401. -/
  | f32VrmulhVop (f : F32.VOP)
  /-- `VPACK`, F32.VOP, R402. -/
  | f32VpackVop (f : F32.VOP)
  /-- `VQPACK`, F32.VOP, R403. -/
  | f32VqpackVop (f : F32.VOP)
  /-- `VUNPKB`, F32.VOP, R404. -/
  | f32VunpkbVop (f : F32.VOP)
  /-- `VUNPKT`, F32.VOP, R405. -/
  | f32VunpktVop (f : F32.VOP)
  /-- `VZIPB`, F32.VOP, R410. -/
  | f32VzipbVop (f : F32.VOP)
  /-- `VZIPT`, F32.VOP, R411. -/
  | f32VziptVop (f : F32.VOP)
  /-- `VAND`, F32.VOP, R412. -/
  | f32VandVop (f : F32.VOP)
  /-- `VORR`, F32.VOP, R413. -/
  | f32VorrVop (f : F32.VOP)
  /-- `VEOR`, F32.VOP, R414. -/
  | f32VeorVop (f : F32.VOP)
  /-- `VCEQ`, F32.VOP, R420. -/
  | f32VceqVop (f : F32.VOP)
  /-- `VCGT`, F32.VOP, R421. -/
  | f32VcgtVop (f : F32.VOP)
  /-- `VCGE`, F32.VOP, R422. -/
  | f32VcgeVop (f : F32.VOP)
  /-- `VFCEQ`, F32.VOP, R425. -/
  | f32VfceqVop (f : F32.VOP)
  /-- `VFCGE`, F32.VOP, R426. -/
  | f32VfcgeVop (f : F32.VOP)
  /-- `VFCGT`, F32.VOP, R427. -/
  | f32VfcgtVop (f : F32.VOP)
  /-- `VFACGE`, F32.VOP, R428. -/
  | f32VfacgeVop (f : F32.VOP)
  /-- `VFACGT`, F32.VOP, R429. -/
  | f32VfacgtVop (f : F32.VOP)
  /-- `VFCMP`, F32.VOP, R430. -/
  | f32VfcmpVop (f : F32.VOP)
  /-- `VFCMPE`, F32.VOP, R431. -/
  | f32VfcmpeVop (f : F32.VOP)
  /-- `VMOVTV`, F32.VXFER, R432. -/
  | f32VmovtvVxfer (f : F32.VXFER)
  /-- `VMOVFV`, F32.VXFER, R433. -/
  | f32VmovfvVxfer (f : F32.VXFER)
  /-- `VMSR`, F32.VCTL, R435. -/
  | f32VmsrVctl (f : F32.VCTL)
  /-- `VMRS`, F32.VCTL, R434. -/
  | f32VmrsVctl (f : F32.VCTL)
  /-- `VSTR`, F32.VLS, R437. -/
  | f32VstrVls (f : F32.VLS)
  /-- `VLDR`, F32.VLS, R436. -/
  | f32VldrVls (f : F32.VLS)
  /-- `SYSW`, F32.SYS, R361. -/
  | f32SyswSys (f : F32.SYS)
  /-- `SYSR`, F32.SYS, R360. -/
  | f32SysrSys (f : F32.SYS)
  /-- `LSLS`, C16.SHI, R446. -/
  | c16LslsShi (f : C16.SHI)
  /-- `LSRS`, C16.SHI, R447. -/
  | c16LsrsShi (f : C16.SHI)
  /-- `ASRS`, C16.SHI, R448. -/
  | c16AsrsShi (f : C16.SHI)
  /-- `ADDS`, C16.AS3, R449. -/
  | c16AddsAs3 (f : C16.AS3)
  /-- `SUBS`, C16.AS3, R450. -/
  | c16SubsAs3 (f : C16.AS3)
  /-- `ADDS`, C16.AS3I, R451. -/
  | c16AddsAs3i (f : C16.AS3I)
  /-- `SUBS`, C16.AS3I, R452. -/
  | c16SubsAs3i (f : C16.AS3I)
  /-- `MOVS`, C16.I8, R453. -/
  | c16MovsI8 (f : C16.I8)
  /-- `CMP`, C16.I8, R454. -/
  | c16CmpI8 (f : C16.I8)
  /-- `ADDS`, C16.I8, R455. -/
  | c16AddsI8 (f : C16.I8)
  /-- `SUBS`, C16.I8, R456. -/
  | c16SubsI8 (f : C16.I8)
  /-- `ANDS`, C16.ALU, R457. -/
  | c16AndsAlu (f : C16.ALU)
  /-- `EORS`, C16.ALU, R458. -/
  | c16EorsAlu (f : C16.ALU)
  /-- `LSLS`, C16.ALU, R459. -/
  | c16LslsAlu (f : C16.ALU)
  /-- `LSRS`, C16.ALU, R460. -/
  | c16LsrsAlu (f : C16.ALU)
  /-- `ASRS`, C16.ALU, R461. -/
  | c16AsrsAlu (f : C16.ALU)
  /-- `ADCS`, C16.ALU, R462. -/
  | c16AdcsAlu (f : C16.ALU)
  /-- `SBCS`, C16.ALU, R463. -/
  | c16SbcsAlu (f : C16.ALU)
  /-- `RORS`, C16.ALU, R464. -/
  | c16RorsAlu (f : C16.ALU)
  /-- `TST`, C16.ALU, R465. -/
  | c16TstAlu (f : C16.ALU)
  /-- `NEGS`, C16.ALU, R466. -/
  | c16NegsAlu (f : C16.ALU)
  /-- `CMP`, C16.ALU, R467. -/
  | c16CmpAlu (f : C16.ALU)
  /-- `CMN`, C16.ALU, R468. -/
  | c16CmnAlu (f : C16.ALU)
  /-- `ORRS`, C16.ALU, R469. -/
  | c16OrrsAlu (f : C16.ALU)
  /-- `MULS`, C16.ALU, R470. -/
  | c16MulsAlu (f : C16.ALU)
  /-- `BICS`, C16.ALU, R471. -/
  | c16BicsAlu (f : C16.ALU)
  /-- `MVNS`, C16.ALU, R472. -/
  | c16MvnsAlu (f : C16.ALU)
  /-- `ADD`, C16.HI, R473. -/
  | c16AddHi (f : C16.HI)
  /-- `CMP`, C16.HI, R474. -/
  | c16CmpHi (f : C16.HI)
  /-- `MOV`, C16.HI, R475. -/
  | c16MovHi (f : C16.HI)
  /-- `BX`, C16.BX, R476. -/
  | c16BxBx (f : C16.BXR)
  /-- `BLX`, C16.BX, R477. -/
  | c16BlxBx (f : C16.BXR)
  /-- `LDR`, C16.LIT, R478. -/
  | c16LdrLit (f : C16.LIT)
  /-- `STR`, C16.LSR, R479. -/
  | c16StrLsr (f : C16.LSR)
  /-- `STRH`, C16.LSR, R480. -/
  | c16StrhLsr (f : C16.LSR)
  /-- `STRB`, C16.LSR, R481. -/
  | c16StrbLsr (f : C16.LSR)
  /-- `LDRSB`, C16.LSR, R482. -/
  | c16LdrsbLsr (f : C16.LSR)
  /-- `LDR`, C16.LSR, R483. -/
  | c16LdrLsr (f : C16.LSR)
  /-- `LDRH`, C16.LSR, R484. -/
  | c16LdrhLsr (f : C16.LSR)
  /-- `LDRB`, C16.LSR, R485. -/
  | c16LdrbLsr (f : C16.LSR)
  /-- `LDRSH`, C16.LSR, R486. -/
  | c16LdrshLsr (f : C16.LSR)
  /-- `STR`, C16.LSI, R487. -/
  | c16StrLsi (f : C16.LSI)
  /-- `LDR`, C16.LSI, R488. -/
  | c16LdrLsi (f : C16.LSI)
  /-- `STRB`, C16.LSI, R489. -/
  | c16StrbLsi (f : C16.LSI)
  /-- `LDRB`, C16.LSI, R490. -/
  | c16LdrbLsi (f : C16.LSI)
  /-- `STRH`, C16.LSI, R491. -/
  | c16StrhLsi (f : C16.LSI)
  /-- `LDRH`, C16.LSI, R492. -/
  | c16LdrhLsi (f : C16.LSI)
  /-- `STR`, C16.SPR, R493. -/
  | c16StrSpr (f : C16.SPR)
  /-- `LDR`, C16.SPR, R494. -/
  | c16LdrSpr (f : C16.SPR)
  /-- `ADR`, C16.ADR, R500. -/
  | c16AdrAdr (f : C16.ADR)
  /-- `ADD`, C16.ADR, R501. -/
  | c16AddAdr (f : C16.ADR)
  /-- `ADD`, C16.SPA, R502. -/
  | c16AddSpa (f : C16.SPA)
  /-- `SUB`, C16.SPA, R503. -/
  | c16SubSpa (f : C16.SPA)
  /-- `PUSH`, C16.PP, R504. -/
  | c16PushPp (f : C16.PP)
  /-- `POP`, C16.PP, R505. -/
  | c16PopPp (f : C16.PP)
  /-- `NOP`, C16.HINT, R508. -/
  | c16NopHint
  /-- `IT`, C16.IT, R509. -/
  | c16ItIt (f : C16.IT)
  /-- `STMIA`, C16.LSM, R506. -/
  | c16StmiaLsm (f : C16.LSM)
  /-- `LDMIA`, C16.LSM, R507. -/
  | c16LdmiaLsm (f : C16.LSM)
  /-- `B`, C16.BC, R495. -/
  | c16BBc (f : C16.BC)
  /-- `B`, C16.B, R496. -/
  | c16BB (f : C16.B)
  /-- `BLX`, C16.BL2, R499. -/
  | c16BlxBl2 (f : C16.BL2X)
  /-- `BL`, C16.BL1, R497. -/
  | c16BlBl1 (f : C16.BL1)
  /-- `BL`, C16.BL2, R498. -/
  | c16BlBl2 (f : C16.BL2)
  /-- `ADD`, W64.ASI, R516. -/
  | w64AddAsi (f : W64.ASI)
  /-- `ADDS`, W64.ASI, R517. -/
  | w64AddsAsi (f : W64.ASI)
  /-- `SUB`, W64.ASI, R518. -/
  | w64SubAsi (f : W64.ASI)
  /-- `SUBS`, W64.ASI, R519. -/
  | w64SubsAsi (f : W64.ASI)
  /-- `ADD`, W64.ASR, R520. -/
  | w64AddAsr (f : W64.ASR)
  /-- `ADDS`, W64.ASR, R521. -/
  | w64AddsAsr (f : W64.ASR)
  /-- `SUB`, W64.ASR, R522. -/
  | w64SubAsr (f : W64.ASR)
  /-- `SUBS`, W64.ASR, R523. -/
  | w64SubsAsr (f : W64.ASR)
  /-- `AND`, W64.LOGR, R524. -/
  | w64AndLogr (f : W64.LOGR)
  /-- `BIC`, W64.LOGR, R525. -/
  | w64BicLogr (f : W64.LOGR)
  /-- `ORR`, W64.LOGR, R526. -/
  | w64OrrLogr (f : W64.LOGR)
  /-- `ORN`, W64.LOGR, R527. -/
  | w64OrnLogr (f : W64.LOGR)
  /-- `EOR`, W64.LOGR, R528. -/
  | w64EorLogr (f : W64.LOGR)
  /-- `EON`, W64.LOGR, R529. -/
  | w64EonLogr (f : W64.LOGR)
  /-- `ANDS`, W64.LOGR, R530. -/
  | w64AndsLogr (f : W64.LOGR)
  /-- `BICS`, W64.LOGR, R531. -/
  | w64BicsLogr (f : W64.LOGR)
  /-- `MOVN`, W64.MOVW, R532. -/
  | w64MovnMovw (f : W64.MOVW)
  /-- `MOVZ`, W64.MOVW, R533. -/
  | w64MovzMovw (f : W64.MOVW)
  /-- `MOVK`, W64.MOVW, R534. -/
  | w64MovkMovw (f : W64.MOVW)
  /-- `ADR`, W64.ADR, R535. -/
  | w64AdrAdr (f : W64.ADR)
  /-- `ADRP`, W64.ADR, R536. -/
  | w64AdrpAdr (f : W64.ADR)
  /-- `B`, W64.BI, R537. -/
  | w64BBi (f : W64.BI)
  /-- `BL`, W64.BI, R538. -/
  | w64BlBi (f : W64.BI)
  /-- `B.cond`, W64.BC, R539. -/
  | w64BcondBc (f : W64.BC)
  /-- `CBZ`, W64.CB, R540. -/
  | w64CbzCb (f : W64.CB)
  /-- `CBNZ`, W64.CB, R541. -/
  | w64CbnzCb (f : W64.CB)
  /-- `TBZ`, W64.TB, R542. -/
  | w64TbzTb (f : W64.TB)
  /-- `TBNZ`, W64.TB, R543. -/
  | w64TbnzTb (f : W64.TB)
  /-- `BR`, W64.BREG, R544. -/
  | w64BrBreg (f : W64.BREG)
  /-- `BLR`, W64.BREG, R545. -/
  | w64BlrBreg (f : W64.BREG)
  /-- `RET`, W64.BREG, R546. -/
  | w64RetBreg (f : W64.BREG)
  /-- `CSEL`, W64.CSEL, R547. -/
  | w64CselCsel (f : W64.CSEL)
  /-- `CSINC`, W64.CSEL, R548. -/
  | w64CsincCsel (f : W64.CSEL)
  /-- `CSINV`, W64.CSEL, R549. -/
  | w64CsinvCsel (f : W64.CSEL)
  /-- `CSNEG`, W64.CSEL, R550. -/
  | w64CsnegCsel (f : W64.CSEL)
  /-- `UDIV`, W64.DP2, R551. -/
  | w64UdivDp2 (f : W64.DP2)
  /-- `SDIV`, W64.DP2, R552. -/
  | w64SdivDp2 (f : W64.DP2)
  /-- `LSLV`, W64.DP2, R553. -/
  | w64LslvDp2 (f : W64.DP2)
  /-- `LSRV`, W64.DP2, R554. -/
  | w64LsrvDp2 (f : W64.DP2)
  /-- `ASRV`, W64.DP2, R555. -/
  | w64AsrvDp2 (f : W64.DP2)
  /-- `RORV`, W64.DP2, R556. -/
  | w64RorvDp2 (f : W64.DP2)
  /-- `MADD`, W64.DP3, R557. -/
  | w64MaddDp3 (f : W64.DP3)
  /-- `MSUB`, W64.DP3, R558. -/
  | w64MsubDp3 (f : W64.DP3)
  /-- `SMADDL`, W64.DP3, R559. -/
  | w64SmaddlDp3 (f : W64.DP3L)
  /-- `SMSUBL`, W64.DP3, R560. -/
  | w64SmsublDp3 (f : W64.DP3L)
  /-- `SMULH`, W64.DP3, R561. -/
  | w64SmulhDp3 (f : W64.MULH)
  /-- `UMADDL`, W64.DP3, R562. -/
  | w64UmaddlDp3 (f : W64.DP3L)
  /-- `UMSUBL`, W64.DP3, R563. -/
  | w64UmsublDp3 (f : W64.DP3L)
  /-- `UMULH`, W64.DP3, R564. -/
  | w64UmulhDp3 (f : W64.MULH)
  /-- `STRB`, W64.LSU, W64.LS9, W64.LSX, R566. -/
  | w64Strb (f : W64.LS)
  /-- `LDRB`, W64.LSU, W64.LS9, W64.LSX, R567. -/
  | w64Ldrb (f : W64.LS)
  /-- `LDRSB`, W64.LSU, W64.LS9, W64.LSX, R568. -/
  | w64Ldrsb (f : W64.LS)
  /-- `LDRSBW`, W64.LSU, W64.LS9, W64.LSX, R569. -/
  | w64Ldrsbw (f : W64.LS)
  /-- `STRH`, W64.LSU, W64.LS9, W64.LSX, R570. -/
  | w64Strh (f : W64.LS)
  /-- `LDRH`, W64.LSU, W64.LS9, W64.LSX, R571. -/
  | w64Ldrh (f : W64.LS)
  /-- `LDRSH`, W64.LSU, W64.LS9, W64.LSX, R572. -/
  | w64Ldrsh (f : W64.LS)
  /-- `LDRSHW`, W64.LSU, W64.LS9, W64.LSX, R573. -/
  | w64Ldrshw (f : W64.LS)
  /-- `STRW`, W64.LSU, W64.LS9, W64.LSX, R574. -/
  | w64Strw (f : W64.LS)
  /-- `LDRW`, W64.LSU, W64.LS9, W64.LSX, R575. -/
  | w64Ldrw (f : W64.LS)
  /-- `LDRSW`, W64.LSU, W64.LS9, W64.LSX, R576. -/
  | w64Ldrsw (f : W64.LS)
  /-- `STRX`, W64.LSU, W64.LS9, W64.LSX, R577. -/
  | w64Strx (f : W64.LS)
  /-- `LDRX`, W64.LSU, W64.LS9, W64.LSX, R578. -/
  | w64Ldrx (f : W64.LS)
  /-- `LDRW`, W64.LIT, R579. -/
  | w64LdrwLit (f : W64.LIT)
  /-- `LDRX`, W64.LIT, R579. -/
  | w64LdrxLit (f : W64.LIT)
  /-- `LDRSW`, W64.LIT, R579. -/
  | w64LdrswLit (f : W64.LIT)
  /-- `STP`, W64.LSP, R580. -/
  | w64StpLsp (f : W64.LSP)
  /-- `LDP`, W64.LSP, R581. -/
  | w64LdpLsp (f : W64.LSP)
  /-- `NOP`, W64.SYS, R589. -/
  | w64NopSys
  /-- `MRS`, W64.SYS, R590. -/
  | w64MrsSys (f : W64.SYS)
  /-- `MSR`, W64.SYS, R591. -/
  | w64MsrSys (f : W64.SYS)
deriving DecidableEq, Repr

end Sys2Proof
end

