-- ==== Sys2Proof/Machine/Operands.lean ====
section
/-! DEFINITION. The operand functions: the barrel shifter and the adder (40_condition_shifter.md R154 to R160), the
rotated immediate (30_encoding.md R105), the addressing-mode resolver (42_addressing_modes.md R221, R226), the W64
operand shifts and extensions (48_w64.md R513, R565). All are pure. -/

namespace Sys2Proof.Machine

/-- A value with a carry. -/
structure Shifted where
  value : Word
  carry : Bool
deriving DecidableEq, Repr

/-- The in-range kinds, `0 < n < 32` (R154). -/
def shiftBy (k : ShiftKind) (v : Word) (n : Nat) : Shifted :=
  match k with
  | .lsl => ⟨v <<< n, v.getLsbD (32 - n)⟩
  | .lsr => ⟨v >>> n, v.getLsbD (n - 1)⟩
  | .asr => ⟨v.sshiftRight n, v.getLsbD (n - 1)⟩
  | .ror => ⟨(v >>> n) ||| (v <<< (32 - n)), v.getLsbD (n - 1)⟩

/-- All 32 bits equal to the sign bit. -/
def signFill (v : Word) : Word := if v.msb then BitVec.allOnes 32 else 0

/-- `ShiftImm` (R156). -/
def shiftImm (k : ShiftKind) (v : Word) (amt : BitVec 5) (cin : Bool) : Shifted :=
  if amt = 0 then
    match k with
    | .lsl => ⟨v, cin⟩
    | .lsr => ⟨0, v.msb⟩
    | .asr => ⟨signFill v, v.msb⟩
    | .ror => ⟨(v >>> 1) ||| (BitVec.ofNat 32 (cin.toNat * 2 ^ 31)), v[0]⟩
  else shiftBy k v amt.toNat

/-- `ShiftReg` (R157); `amt` is the low byte of the amount register. -/
def shiftReg (k : ShiftKind) (v : Word) (amt : BitVec 8) (cin : Bool) : Shifted :=
  let n := amt.toNat
  if n = 0 then ⟨v, cin⟩
  else
    match k with
    | .lsl => if n < 32 then shiftBy .lsl v n else if n = 32 then ⟨0, v[0]⟩ else ⟨0, false⟩
    | .lsr => if n < 32 then shiftBy .lsr v n else if n = 32 then ⟨0, v.msb⟩ else ⟨0, false⟩
    | .asr => if n < 32 then shiftBy .asr v n else ⟨signFill v, v.msb⟩
    | .ror => if n % 32 = 0 then ⟨v, v.msb⟩ else shiftBy .ror v (n % 32)

/-- The F32 rotated immediate with its carry (30_encoding.md R105, 40_condition_shifter.md R160). -/
def rotatedImm (rot : BitVec 4) (imm8 : BitVec 8) (cin : Bool) : Shifted :=
  let v : Word := (imm8.setWidth 32).rotateRight (2 * rot.toNat)
  ⟨v, if rot = 0 then cin else v.msb⟩

/-- The result of an addition. -/
structure Sum (w : Nat) where
  res : BitVec w
  carry : Bool
  overflow : Bool
deriving DecidableEq, Repr

/-- `AddWithCarry` (R159), by exact integers. -/
def addWithCarry {w : Nat} (x y : BitVec w) (cin : Bool) : Sum w :=
  let usum : Nat := x.toNat + y.toNat + cin.toNat
  let ssum : Int := x.toInt + y.toInt + (cin.toNat : Int)
  let half : Int := ((2 ^ (w - 1) : Nat) : Int)
  ⟨BitVec.ofNat w usum, decide (2 ^ w ≤ usum), decide (ssum < -half ∨ half - 1 < ssum)⟩

/-- What `ResolveSingle` answers: the address and the base to write back, if any. -/
structure Resolved (w : Nat) where
  address : BitVec w
  newBase : Option (BitVec w)
deriving DecidableEq, Repr

/-- `ResolveSingle` (42_addressing_modes.md R221). -/
def resolveSingle {w : Nat} (base off : BitVec w) (add index wback : Bool) : Resolved w :=
  let offaddr := if add then base + off else base - off
  ⟨if index then offaddr else base, if wback then some offaddr else none⟩

/-- What `ResolveMultiple` answers. -/
structure ResolvedMultiple where
  start : Word
  newBase : Word
deriving DecidableEq, Repr

/-- `ResolveMultiple` for `n` registers (42_addressing_modes.md R226). -/
def resolveMultiple (base : Word) (n : Nat) (p u : Bool) : ResolvedMultiple :=
  let size : Word := BitVec.ofNat 32 (4 * n)
  match p, u with
  | false, true => ⟨base, base + size⟩
  | true, true => ⟨base + 4, base + size⟩
  | false, false => ⟨base - size + 4, base - size⟩
  | true, false => ⟨base - size, base - size⟩

/-- The registers of a 16-bit list, in ascending order. -/
def regList (l : BitVec 16) : List (Fin 16) := (List.finRange 16).filter fun i => l.getLsbD i.val

/-- `Shift_W` (48_w64.md R513), `n < w`. -/
def shiftW {w : Nat} (k : ShiftKind) (v : BitVec w) (n : Nat) : BitVec w :=
  match k with
  | .lsl => v <<< n
  | .lsr => v >>> n
  | .asr => v.sshiftRight n
  | .ror => v.rotateRight n

/-- The offset extension of W64 register addressing (48_w64.md R565); `option[1] = 0` is unclassified. -/
def extendOffset (option : BitVec 3) (v : DWord) : DWord :=
  match option.toNat with
  | 2 => (v.setWidth 32).setWidth 64
  | 6 => (v.setWidth 32).signExtend 64
  | _ => v

end Sys2Proof.Machine
end

