-- ==== Sys2Proof/Machine/Ops.lean ====
section
/-! DEFINITION. The named operations every meaning is written over: register access, the program counter, taking an
exception (60_exceptions.md R631), the memory port (20_memory.md R70 to R85), `BranchExchange`
(45_f32_branch_system.md R341), and the conditional-execution group (47_c16_compact.md R440 to R444). -/

namespace Sys2Proof.Machine

/-! ### Registers of the 32-bit modes (10_state.md R23, R27) -/

/-- Register `i`; register 15 reads as `pcv`. -/
def State.getR (s : State) (i : Fin 16) (pcv : Word) : Word := if h : i.val < 15 then s.r[i.val] else pcv

/-- Writes register `i` below 15; register 15 has no storage. -/
def State.setR (s : State) (i : Fin 16) (v : Word) : State :=
  if h : i.val < 15 then { s with r := s.r.set i.val v } else s

/-- `ia` in the 32-bit modes. -/
def State.ia32 (s : State) : Word := s.pc.setWidth 32

/-- `pc <- a` in the 32-bit modes. -/
def State.setPc32 (s : State) (a : Word) : State := { s with pc := a.setWidth 64 }

/-- A register operand of an F32 instruction: register 15 reads `ia + 8`. -/
def State.rF (s : State) (i : Fin 16) : Word := s.getR i (s.ia32 + 8)

/-- A register operand of a C16 instruction: register 15 reads `ia + 4`. -/
def State.rC (s : State) (i : Fin 16) : Word := s.getR i (s.ia32 + 4)

/-- A low register of C16. -/
def low (i : Fin 8) : Fin 16 := ⟨i.val, by omega⟩

/-- What a store of register `i` writes: register 15 gives `ia + PC_STORE_OFFSET` (44_f32_load_store.md R301). -/
def State.storeValue (s : State) (i : Fin 16) : Word := s.getR i (s.ia32 + s.cfg.pcStoreOffset.toWord)

/-- `pc <- next` after an F32 instruction (10_state.md R26). -/
def State.next4 (s : State) : State := s.setPc32 (s.ia32 + 4)

/-- A data-processing write to the program counter: bits 1:0 cleared, the mode unchanged
(43_f32_data_processing.md R253). -/
def State.branchF (s : State) (t : Word) : State := s.setPc32 (t &&& ~~~3#32)

/-- `BranchExchange(t)` (45_f32_branch_system.md R341). -/
def State.branchExchange (s : State) (t : Word) : State :=
  if t[0] then { s with mode := .c16, pc := (t &&& ~~~1#32).setWidth 64 }
  else { s with mode := .f32, pc := (t &&& ~~~3#32).setWidth 64 }

/-! ### Registers of W64 (10_state.md R30, 48_w64.md R511) -/

/-- `X(i)`: 31 reads as zero. -/
def State.getX (s : State) (i : Fin 32) : DWord := if h : i.val < 31 then s.x[i.val] else 0

/-- `X(i) <- v`: a write to 31 is discarded. -/
def State.setX (s : State) (i : Fin 32) (v : DWord) : State :=
  if h : i.val < 31 then { s with x := s.x.set i.val v } else s

/-- `XSP(i)`: 31 names `sp`. -/
def State.getXsp (s : State) (i : Fin 32) : DWord := if h : i.val < 31 then s.x[i.val] else s.sp

/-- `XSP(i) <- v`. -/
def State.setXsp (s : State) (i : Fin 32) (v : DWord) : State :=
  if h : i.val < 31 then { s with x := s.x.set i.val v } else { s with sp := v }

/-- `pc <- next` after a W64 instruction. -/
def State.nextW (s : State) : State := { s with pc := s.pc + 4 }

/-- A W64 branch: bits 1:0 of the target are cleared (10_state.md R28). -/
def State.branchW (s : State) (t : DWord) : State := { s with pc := t &&& ~~~3#64 }

/-! ### Vector registers (10_state.md R42) -/

def State.getV (s : State) (i : Fin 16) : DWord := s.vec[i.val]

def State.setV (s : State) (i : Fin 16) (v : DWord) : State := { s with vec := s.vec.set i.val v }

/-! ### Taking an exception (60_exceptions.md R631) -/

/-- The raise, common to all causes: `pc <- ia`, and the cause, `ia` and the data of a refused request go to
`ExceptionDelivery` in the pending `Raise`. Nothing else is written. `ia` is the `pc` the instruction was fetched at,
which no meaning has replaced when it raises. -/
def State.raise (s : State) (c : Cause) (a : Option Access) : State :=
  { s with pc := s.pc, raised := some ⟨c, s.pc, a⟩ }

/-- `raise Undefined` (60_exceptions.md R632). -/
def State.undef (s : State) : State := s.raise .undef none

/-- `raise Debug` (60_exceptions.md R633). -/
def State.debug (s : State) : State := s.raise .debug none

/-- `raise FetchAbort` (60_exceptions.md R634). -/
def State.fetchAbort (s : State) : State := s.raise .fetchAbort none

/-- `raise DataAbort` with the refused request (60_exceptions.md R635). -/
def State.dataAbort (s : State) (a : Access) : State := s.raise .dataAbort (some a)

/-- Delivery of a pending raise (60_exceptions.md R637): the environment's answer, with the raise consumed, or
`none` for `Halt`. It is the one way back from an exception: no instruction returns from one
(45_f32_branch_system.md R364). -/
def State.deliver (delivery : Raise → State → Option State) (s : State) (r : Raise) : Option State :=
  match delivery r s with
  | some t => some { t with raised := none, ctx := none }
  | none => none

/-- The default `ExceptionDelivery`: `Halt` (60_exceptions.md R637). -/
def haltDelivery : Raise → State → Option State := fun _ _ => none

/-! ### The memory port (20_memory.md R70 to R85) -/

/-- The width of an address: 32 bits in F32 and C16, 64 bits in W64 (20_memory.md R75). -/
inductive Space where
  | narrow
  | wide
deriving DecidableEq, Repr

def Space.bits : Space → Nat
  | .narrow => 32
  | .wide => 64

/-- The requests a rule refuses (20_memory.md R73). -/
def AbortRule.refuses (q : AbortRule) (kind : AccessKind) (addr : DWord) (size : Nat) (acc : Priv) : Bool :=
  (q.kind == none || q.kind == some kind) && decide (q.first.toNat ≤ addr.toNat) && decide (addr.toNat ≤ q.last.toNat)
    && (q.size == none || q.size == some size) && (q.acc == none || q.acc == some acc)

/-- The port's `abort` answer (20_memory.md R73), and the refusal of a misaligned data request under
`MISALIGNED = abort` (R79). -/
def State.aborts (s : State) (kind : AccessKind) (addr : DWord) (size : Nat) (acc : Priv) : Bool :=
  (kind != .fetch && s.cfg.misaligned == .abort && addr.toNat % size != 0)
    || s.env.abortRules.any fun q => q.refuses kind addr size acc

/-- `MemRead(addr, size)`: the value read, or the refused request (20_memory.md R70). -/
def State.load (s : State) (sp : Space) (acc : Priv) (addr : DWord) (size : Nat) : Except Access Nat :=
  if s.aborts .read addr size acc then .error ⟨addr, false, size⟩
  else .ok (Memory.load s.mem s.cfg.endian sp.bits addr.toNat size)

/-- `MemWrite(addr, size, v)`: the state with memory written, or the refused request (20_memory.md R70). -/
def State.store (s : State) (sp : Space) (acc : Priv) (addr : DWord) (size v : Nat) : Except Access State :=
  if s.aborts .write addr size acc then .error ⟨addr, true, size⟩
  else .ok { s with mem := Memory.store s.mem s.cfg.endian sp.bits addr.toNat size v }

/-- A data read of the 32-bit modes. -/
def State.load32 (s : State) (acc : Priv) (addr : Word) (size : Nat) : Except Access Nat :=
  s.load .narrow acc (addr.setWidth 64) size

/-- A data write of the 32-bit modes. -/
def State.store32 (s : State) (acc : Priv) (addr : Word) (size v : Nat) : Except Access State :=
  s.store .narrow acc (addr.setWidth 64) size v

/-- Reads one word for each listed register, at ascending addresses (42_addressing_modes.md R227); the first refused
request ends the transfer. -/
def State.loadWords (s : State) (addr : Word) : List (Fin 16) → Except Access (List (Fin 16 × Word))
  | [] => .ok []
  | i :: rs =>
    match s.load32 s.priv addr 4 with
    | .error a => .error a
    | .ok v =>
      match s.loadWords (addr + 4) rs with
      | .error a => .error a
      | .ok vs => .ok ((i, BitVec.ofNat 32 v) :: vs)

/-- Stores words at ascending addresses; the first refused request ends the transfer and the words already stored
stay stored (20_memory.md R85). -/
def State.storeWords (s : State) (addr : Word) : List Word → State × Option Access
  | [] => (s, none)
  | v :: vs =>
    match s.store32 s.priv addr 4 v.toNat with
    | .error a => (s, some a)
    | .ok t => t.storeWords (addr + 4) vs

/-- Writes the loaded registers in ascending order; register 15 is not written here (42_addressing_modes.md R228,
R229). -/
def State.writeLoaded (s : State) : List (Fin 16 × Word) → State
  | [] => s
  | (i, v) :: rest => (s.setR i v).writeLoaded rest

/-- The word loaded for register 15, if it is in the list. -/
def loadedPc (vs : List (Fin 16 × Word)) : Option Word := (vs.find? fun p => p.1 = 15).map Prod.snd

/-- The base written back, if the addressing mode asks for it. -/
def State.writeBack32 (s : State) (rn : Fin 16) : Option Word → State
  | none => s
  | some b => s.setR rn b

def State.writeBackX (s : State) (rn : Fin 32) : Option DWord → State
  | none => s
  | some b => s.setXsp rn b

/-- `sext_N` of the low `n` bits of a value read, to `w` bits (00_scope.md R12, 20_memory.md R71). -/
def sextTo (n w : Nat) (v : Nat) : BitVec w := (BitVec.ofNat n v).signExtend w

/-! ### The shape of an F32 instruction (30_encoding.md R103) -/

/-- An instruction whose condition fails has no effect except `pc <- next`. -/
def f32Run (c : Cond) (s : State) (body : State → State) : Host.Outcome State Fault Refusal :=
  .next (if s.flags.condPassed c then body s else s.next4)

/-! ### The conditional-execution group of C16 (47_c16_compact.md R440 to R444) -/

/-- A group is active (R441). -/
def State.inGroup (s : State) : Bool := s.itstate.extractLsb' 0 4 != 0

/-- The next instruction is the last slot (R441). -/
def State.lastSlot (s : State) : Bool := s.inGroup && s.itstate.extractLsb' 0 3 == 0

/-- The condition of the current slot; always, outside a group (R440, R442). -/
def State.slotCond (s : State) : Cond := if s.inGroup then s.itstate.extractLsb' 4 4 else 14

/-- The slot's condition holds. -/
def State.slotPassed (s : State) : Bool := s.flags.condPassed s.slotCond

/-- `itstate` after an instruction (R443). -/
def advanceIt (it : BitVec 8) : BitVec 8 :=
  if it.extractLsb' 0 3 = 0 then 0
  else it.extractLsb' 5 3 ++ (it.extractLsb' 0 5 <<< 1)

def State.advanceIt (s : State) : State := { s with itstate := Machine.advanceIt s.itstate }

/-- An instruction that writes `pc` may stand only outside a group or in its last slot (R444 (b)). -/
def State.mayBranch (s : State) : Bool := !s.inGroup || s.lastSlot

/-- `pc <- next` after a C16 instruction, `itstate` unchanged: the `IT` instruction and the `BL` prefix. -/
def State.next2 (s : State) : State := s.setPc32 (s.ia32 + 2)

/-- `pc <- next` and the advance of `itstate`. -/
def State.finish2 (s : State) : State := s.next2.advanceIt

/-- A branch that stays in C16 (bit 0 of the target cleared), and the advance of `itstate`. -/
def State.branchC (s : State) (t : Word) : State := (s.setPc32 (t &&& ~~~1#32)).advanceIt

/-- Flags of an `S` form: written only when no group is active (R444 (a)). -/
def State.withFlagsS (s : State) (f : Flags) : State := if s.inGroup then s else { s with flags := f }

/-- One C16 instruction in its slot: skipped when the slot's condition fails (R442), `Undefined` when it is not legal
there (R444), else its effect. -/
def c16Run (legal : State → Bool) (s : State) (body : State → State) : Host.Outcome State Fault Refusal :=
  .next (if !s.slotPassed then s.finish2 else if legal s then body s else s.undef)

/-- No legality condition beyond the decoder's. -/
def always (_ : State) : Bool := true

end Sys2Proof.Machine
end

