-- ==== Sys2Proof/Machine/C16Branch.lean ====
section
/-! DEFINITION. C16 branches (47_c16_compact.md R476, R477, R495 to R499). -/

namespace Sys2Proof.Machine

/-- `BX` (R476). -/
def execC16BxBx (f : C16.BXR) (s : State) : Host.Outcome State Fault Refusal :=
  c16Run State.mayBranch s fun s => (s.branchExchange (s.rC f.rm)).advanceIt

/-- The return address of a C16 call: `next` with bit 0 set (R477). -/
def State.linkC (s : State) : Word := (s.ia32 + 2) ||| 1

/-- `BLX`, register (R477): the target is read before the link register is written. -/
def execC16BlxBx (f : C16.BXR) (s : State) : Host.Outcome State Fault Refusal :=
  c16Run (fun s => f.rm != 15 && s.mayBranch) s fun s =>
    ((s.setR 14 s.linkC).branchExchange (s.rC f.rm)).advanceIt

/-- An address at an offset from `ia + 4` (R495). -/
def State.aheadC (s : State) (off : Word) : Word := s.ia32 + 4 + off

/-- `B<cond>` (R495): `Undefined` in every slot of a group. -/
def execC16BBc (f : C16.BC) (s : State) : Host.Outcome State Fault Refusal :=
  c16Run (fun s => !s.inGroup) s fun s =>
    if s.flags.condPassed f.cond then (s.setPc32 (s.aheadC (f.imm8.signExtend 32 <<< 1))).advanceIt else s.finish2

/-- `B` (R496). -/
def execC16BB (f : C16.B) (s : State) : Host.Outcome State Fault Refusal :=
  c16Run State.mayBranch s fun s => (s.setPc32 (s.aheadC (f.imm11.signExtend 32 <<< 1))).advanceIt

/-- `BL`, the prefix (R497): consumes no slot and is never `Undefined`. -/
def execC16BlBl1 (f : C16.BL1) (s : State) : Host.Outcome State Fault Refusal :=
  .next (if s.slotPassed then (s.setR 14 (s.aheadC (f.imm11.signExtend 32 <<< 12))).next2 else s.next2)

/-- `BL`, the suffix (R498). -/
def execC16BlBl2 (f : C16.BL2) (s : State) : Host.Outcome State Fault Refusal :=
  c16Run State.mayBranch s fun s => (s.setR 14 s.linkC).branchC (s.rC 14 + (f.imm11.setWidth 32 <<< 1))

/-- `BLX`, the suffix (R499): enters F32. -/
def execC16BlxBl2 (f : C16.BL2X) (s : State) : Host.Outcome State Fault Refusal :=
  c16Run State.mayBranch s fun s =>
    let t := (s.rC 14 + (f.imm10.setWidth 32 <<< 2)) &&& ~~~3#32
    State.advanceIt { (s.setR 14 s.linkC).setPc32 t with mode := .f32 }

end Sys2Proof.Machine
end

