-- ==== Sys2Proof/Machine/C16Data.lean ====
section
/-! DEFINITION. C16 data-processing, address generation, hint and conditional-group instructions
(47_c16_compact.md R446 to R475, R500 to R503, R508, R509). -/

namespace Sys2Proof.Machine

/-! ### Shapes -/

/-- A result in a register, then `pc <- next` and the advance of the group. -/
def State.resultC (s : State) (rd : Fin 16) (res : Word) : State := (s.setR rd res).finish2

/-- A shift: `N`, `Z` from the result, `C` from the shifter; flags outside a group only (R446, R459). -/
def c16Shift (rd : Fin 8) (op : State → Shifted) (s : State) : Host.Outcome State Fault Refusal :=
  c16Run always s fun s =>
    let q := op s
    (s.withFlagsS (s.flags.logical q.value q.carry)).resultC (low rd) q.value

/-- A logical result: `N`, `Z` from the result, `C`, `V` unchanged; flags outside a group only (R457). -/
def c16Logical (rd : Fin 8) (op : State → Word) (s : State) : Host.Outcome State Fault Refusal :=
  c16Run always s fun s => (s.withFlagsS (s.flags.setNZ (op s))).resultC (low rd) (op s)

/-- A sum: the arithmetic rule; flags outside a group only (R449). -/
def c16Arith (rd : Fin 8) (op : State → Sum 32) (s : State) : Host.Outcome State Fault Refusal :=
  c16Run always s fun s =>
    let t := op s
    (s.withFlagsS (s.flags.arithmetic t.res t.carry t.overflow)).resultC (low rd) t.res

/-- A compare: the arithmetic rule, always; no register written (R454). -/
def c16Compare (legal : State → Bool) (op : State → Sum 32) (s : State) : Host.Outcome State Fault Refusal :=
  c16Run legal s fun s =>
    let t := op s
    State.finish2 { s with flags := s.flags.arithmetic t.res t.carry t.overflow }

/-- A register result without flags (R473, R500). -/
def c16Move (rd : Fin 16) (op : State → Word) (s : State) : Host.Outcome State Fault Refusal :=
  c16Run always s fun s => s.resultC rd (op s)

/-- `ia + 4` with bits 1:0 cleared (R478, R500). -/
def State.literalBase (s : State) : Word := (s.ia32 + 4) &&& ~~~3#32

/-! ### Shift by immediate, add and subtract (R446 to R456) -/

/-- `LSLS` (R446). -/
def execC16LslsShi (f : C16.SHI) (s : State) : Host.Outcome State Fault Refusal :=
  c16Shift f.rd (fun s => shiftImm .lsl (s.rC (low f.rm)) f.imm5 s.flags.c) s

/-- `LSRS` (R447). -/
def execC16LsrsShi (f : C16.SHI) (s : State) : Host.Outcome State Fault Refusal :=
  c16Shift f.rd (fun s => shiftImm .lsr (s.rC (low f.rm)) f.imm5 s.flags.c) s

/-- `ASRS` (R448). -/
def execC16AsrsShi (f : C16.SHI) (s : State) : Host.Outcome State Fault Refusal :=
  c16Shift f.rd (fun s => shiftImm .asr (s.rC (low f.rm)) f.imm5 s.flags.c) s

/-- `ADDS` (R449). -/
def execC16AddsAs3 (f : C16.AS3) (s : State) : Host.Outcome State Fault Refusal :=
  c16Arith f.rd (fun s => addWithCarry (s.rC (low f.rn)) (s.rC (low f.rm)) false) s

/-- `SUBS` (R450). -/
def execC16SubsAs3 (f : C16.AS3) (s : State) : Host.Outcome State Fault Refusal :=
  c16Arith f.rd (fun s => addWithCarry (s.rC (low f.rn)) (~~~(s.rC (low f.rm))) true) s

/-- `ADDS` (R451). -/
def execC16AddsAs3i (f : C16.AS3I) (s : State) : Host.Outcome State Fault Refusal :=
  c16Arith f.rd (fun s => addWithCarry (s.rC (low f.rn)) (f.imm3.setWidth 32) false) s

/-- `SUBS` (R452). -/
def execC16SubsAs3i (f : C16.AS3I) (s : State) : Host.Outcome State Fault Refusal :=
  c16Arith f.rd (fun s => addWithCarry (s.rC (low f.rn)) (~~~(f.imm3.setWidth 32)) true) s

/-- `MOVS` (R453). -/
def execC16MovsI8 (f : C16.I8) (s : State) : Host.Outcome State Fault Refusal :=
  c16Logical f.rd (fun _ => f.imm8.setWidth 32) s

/-- `CMP` (R454). -/
def execC16CmpI8 (f : C16.I8) (s : State) : Host.Outcome State Fault Refusal :=
  c16Compare always (fun s => addWithCarry (s.rC (low f.rd)) (~~~(f.imm8.setWidth 32)) true) s

/-- `ADDS` (R455). -/
def execC16AddsI8 (f : C16.I8) (s : State) : Host.Outcome State Fault Refusal :=
  c16Arith f.rd (fun s => addWithCarry (s.rC (low f.rd)) (f.imm8.setWidth 32) false) s

/-- `SUBS` (R456). -/
def execC16SubsI8 (f : C16.I8) (s : State) : Host.Outcome State Fault Refusal :=
  c16Arith f.rd (fun s => addWithCarry (s.rC (low f.rd)) (~~~(f.imm8.setWidth 32)) true) s

/-! ### Two-register operations (R457 to R472) -/

/-- `ANDS` (R457). -/
def execC16AndsAlu (f : C16.ALU) (s : State) : Host.Outcome State Fault Refusal :=
  c16Logical f.rdn (fun s => s.rC (low f.rdn) &&& s.rC (low f.rm)) s

/-- `EORS` (R458). -/
def execC16EorsAlu (f : C16.ALU) (s : State) : Host.Outcome State Fault Refusal :=
  c16Logical f.rdn (fun s => s.rC (low f.rdn) ^^^ s.rC (low f.rm)) s

/-- `LSLS` (R459). -/
def execC16LslsAlu (f : C16.ALU) (s : State) : Host.Outcome State Fault Refusal :=
  c16Shift f.rdn (fun s => shiftReg .lsl (s.rC (low f.rdn)) ((s.rC (low f.rm)).setWidth 8) s.flags.c) s

/-- `LSRS` (R460). -/
def execC16LsrsAlu (f : C16.ALU) (s : State) : Host.Outcome State Fault Refusal :=
  c16Shift f.rdn (fun s => shiftReg .lsr (s.rC (low f.rdn)) ((s.rC (low f.rm)).setWidth 8) s.flags.c) s

/-- `ASRS` (R461). -/
def execC16AsrsAlu (f : C16.ALU) (s : State) : Host.Outcome State Fault Refusal :=
  c16Shift f.rdn (fun s => shiftReg .asr (s.rC (low f.rdn)) ((s.rC (low f.rm)).setWidth 8) s.flags.c) s

/-- `ADCS` (R462). -/
def execC16AdcsAlu (f : C16.ALU) (s : State) : Host.Outcome State Fault Refusal :=
  c16Arith f.rdn (fun s => addWithCarry (s.rC (low f.rdn)) (s.rC (low f.rm)) s.flags.c) s

/-- `SBCS` (R463). -/
def execC16SbcsAlu (f : C16.ALU) (s : State) : Host.Outcome State Fault Refusal :=
  c16Arith f.rdn (fun s => addWithCarry (s.rC (low f.rdn)) (~~~(s.rC (low f.rm))) s.flags.c) s

/-- `RORS` (R464). -/
def execC16RorsAlu (f : C16.ALU) (s : State) : Host.Outcome State Fault Refusal :=
  c16Shift f.rdn (fun s => shiftReg .ror (s.rC (low f.rdn)) ((s.rC (low f.rm)).setWidth 8) s.flags.c) s

/-- `TST` (R465): flags always. -/
def execC16TstAlu (f : C16.ALU) (s : State) : Host.Outcome State Fault Refusal :=
  c16Run always s fun s => State.finish2 { s with flags := s.flags.setNZ (s.rC (low f.rdn) &&& s.rC (low f.rm)) }

/-- `NEGS` (R466). -/
def execC16NegsAlu (f : C16.ALU) (s : State) : Host.Outcome State Fault Refusal :=
  c16Arith f.rdn (fun s => addWithCarry 0 (~~~(s.rC (low f.rm))) true) s

/-- `CMP` (R467). -/
def execC16CmpAlu (f : C16.ALU) (s : State) : Host.Outcome State Fault Refusal :=
  c16Compare always (fun s => addWithCarry (s.rC (low f.rdn)) (~~~(s.rC (low f.rm))) true) s

/-- `CMN` (R468). -/
def execC16CmnAlu (f : C16.ALU) (s : State) : Host.Outcome State Fault Refusal :=
  c16Compare always (fun s => addWithCarry (s.rC (low f.rdn)) (s.rC (low f.rm)) false) s

/-- `ORRS` (R469). -/
def execC16OrrsAlu (f : C16.ALU) (s : State) : Host.Outcome State Fault Refusal :=
  c16Logical f.rdn (fun s => s.rC (low f.rdn) ||| s.rC (low f.rm)) s

/-- `MULS` (R470). -/
def execC16MulsAlu (f : C16.ALU) (s : State) : Host.Outcome State Fault Refusal :=
  c16Logical f.rdn (fun s => s.rC (low f.rdn) * s.rC (low f.rm)) s

/-- `BICS` (R471). -/
def execC16BicsAlu (f : C16.ALU) (s : State) : Host.Outcome State Fault Refusal :=
  c16Logical f.rdn (fun s => s.rC (low f.rdn) &&& ~~~(s.rC (low f.rm))) s

/-- `MVNS` (R472). -/
def execC16MvnsAlu (f : C16.ALU) (s : State) : Host.Outcome State Fault Refusal :=
  c16Logical f.rdn (fun s => ~~~(s.rC (low f.rm))) s

/-! ### High-register operations (R473 to R475) -/

/-- A result in any register; for register 15 a branch that stays in C16, legal outside a group and in its last slot
(R444, R445). -/
def c16High (d : Fin 16) (op : State → Word) (s : State) : Host.Outcome State Fault Refusal :=
  c16Run (fun s => d != 15 || s.mayBranch) s fun s => if d = 15 then s.branchC (op s) else s.resultC d (op s)

/-- `ADD` (R473). -/
def execC16AddHi (f : C16.HI) (s : State) : Host.Outcome State Fault Refusal :=
  c16High f.d (fun s => s.rC f.d + s.rC f.rm) s

/-- `CMP` (R474). -/
def execC16CmpHi (f : C16.HI) (s : State) : Host.Outcome State Fault Refusal :=
  c16Compare (fun _ => f.d != 15 && f.rm != 15) (fun s => addWithCarry (s.rC f.d) (~~~(s.rC f.rm)) true) s

/-- `MOV` (R475). -/
def execC16MovHi (f : C16.HI) (s : State) : Host.Outcome State Fault Refusal :=
  c16High f.d (fun s => s.rC f.rm) s

/-! ### Address generation and stack adjustment (R500 to R503) -/

/-- `ADR` (R500). -/
def execC16AdrAdr (f : C16.ADR) (s : State) : Host.Outcome State Fault Refusal :=
  c16Move (low f.rd) (fun s => s.literalBase + (f.imm8.setWidth 32 <<< 2)) s

/-- `ADD` (R501). -/
def execC16AddAdr (f : C16.ADR) (s : State) : Host.Outcome State Fault Refusal :=
  c16Move (low f.rd) (fun s => s.rC 13 + (f.imm8.setWidth 32 <<< 2)) s

/-- `ADD` (R502). -/
def execC16AddSpa (f : C16.SPA) (s : State) : Host.Outcome State Fault Refusal :=
  c16Move 13 (fun s => s.rC 13 + (f.imm7.setWidth 32 <<< 2)) s

/-- `SUB` (R503). -/
def execC16SubSpa (f : C16.SPA) (s : State) : Host.Outcome State Fault Refusal :=
  c16Move 13 (fun s => s.rC 13 - (f.imm7.setWidth 32 <<< 2)) s

/-! ### Hint and group start (R508, R509) -/

/-- `NOP` (R508). -/
def execC16NopHint (s : State) : Host.Outcome State Fault Refusal :=
  c16Run always s State.finish2

/-- `IT` (R509): legal outside a group only; `itstate` is not advanced. -/
def execC16ItIt (f : C16.IT) (s : State) : Host.Outcome State Fault Refusal :=
  c16Run (fun s => !s.inGroup) s fun s => State.next2 { s with itstate := f.firstcond ++ f.mask }

end Sys2Proof.Machine
end

