-- ==== Sys2Proof/Machine/C16LoadStore.lean ====
section
/-! DEFINITION. C16 loads, stores and multiple-register transfers (47_c16_compact.md R478 to R494, R504 to R507). -/

namespace Sys2Proof.Machine

/-! ### Single-register load and store (R478 to R494) -/

/-- A load: the register takes the value read, extended; an abort leaves it unchanged. -/
def c16Load (rd : Fin 8) (addr : State → Word) (size : Nat) (extend : Nat → Word) (s : State) :
    Host.Outcome State Fault Refusal :=
  c16Run always s fun s =>
    match s.load32 s.priv (addr s) size with
    | .error e => s.dataAbort e
    | .ok v => s.resultC (low rd) (extend v)

/-- A store of the low `size` bytes of a register. -/
def c16Store (rd : Fin 8) (addr : State → Word) (size : Nat) (s : State) : Host.Outcome State Fault Refusal :=
  c16Run always s fun s =>
    match s.store32 s.priv (addr s) size (s.rC (low rd)).toNat with
    | .error e => s.dataAbort e
    | .ok t => t.finish2

/-- The addresses of the four formats (R478, R479, R487, R493); the immediate is scaled by `2 ^ k`. -/
def addrLit (f : C16.LIT) (s : State) : Word := s.literalBase + (f.imm8.setWidth 32 <<< 2)

def addrC16Lsr (f : C16.LSR) (s : State) : Word := s.rC (low f.rn) + s.rC (low f.rm)

def addrC16Lsi (k : Nat) (f : C16.LSI) (s : State) : Word := s.rC (low f.rn) + (f.imm5.setWidth 32 <<< k)

def addrSpr (f : C16.SPR) (s : State) : Word := s.rC 13 + (f.imm8.setWidth 32 <<< 2)

/-- `LDR` (R478). -/
def execC16LdrLit (f : C16.LIT) (s : State) : Host.Outcome State Fault Refusal :=
  c16Load f.rd (addrLit f) 4 (BitVec.ofNat 32) s

/-- `STR` (R479). -/
def execC16StrLsr (f : C16.LSR) (s : State) : Host.Outcome State Fault Refusal :=
  c16Store f.rd (addrC16Lsr f) 4 s

/-- `STRH` (R480). -/
def execC16StrhLsr (f : C16.LSR) (s : State) : Host.Outcome State Fault Refusal :=
  c16Store f.rd (addrC16Lsr f) 2 s

/-- `STRB` (R481). -/
def execC16StrbLsr (f : C16.LSR) (s : State) : Host.Outcome State Fault Refusal :=
  c16Store f.rd (addrC16Lsr f) 1 s

/-- `LDRSB` (R482). -/
def execC16LdrsbLsr (f : C16.LSR) (s : State) : Host.Outcome State Fault Refusal :=
  c16Load f.rd (addrC16Lsr f) 1 (sextTo 8 32) s

/-- `LDR` (R483). -/
def execC16LdrLsr (f : C16.LSR) (s : State) : Host.Outcome State Fault Refusal :=
  c16Load f.rd (addrC16Lsr f) 4 (BitVec.ofNat 32) s

/-- `LDRH` (R484). -/
def execC16LdrhLsr (f : C16.LSR) (s : State) : Host.Outcome State Fault Refusal :=
  c16Load f.rd (addrC16Lsr f) 2 (BitVec.ofNat 32) s

/-- `LDRB` (R485). -/
def execC16LdrbLsr (f : C16.LSR) (s : State) : Host.Outcome State Fault Refusal :=
  c16Load f.rd (addrC16Lsr f) 1 (BitVec.ofNat 32) s

/-- `LDRSH` (R486). -/
def execC16LdrshLsr (f : C16.LSR) (s : State) : Host.Outcome State Fault Refusal :=
  c16Load f.rd (addrC16Lsr f) 2 (sextTo 16 32) s

/-- `STR` (R487). -/
def execC16StrLsi (f : C16.LSI) (s : State) : Host.Outcome State Fault Refusal :=
  c16Store f.rd (addrC16Lsi 2 f) 4 s

/-- `LDR` (R488). -/
def execC16LdrLsi (f : C16.LSI) (s : State) : Host.Outcome State Fault Refusal :=
  c16Load f.rd (addrC16Lsi 2 f) 4 (BitVec.ofNat 32) s

/-- `STRB` (R489). -/
def execC16StrbLsi (f : C16.LSI) (s : State) : Host.Outcome State Fault Refusal :=
  c16Store f.rd (addrC16Lsi 0 f) 1 s

/-- `LDRB` (R490). -/
def execC16LdrbLsi (f : C16.LSI) (s : State) : Host.Outcome State Fault Refusal :=
  c16Load f.rd (addrC16Lsi 0 f) 1 (BitVec.ofNat 32) s

/-- `STRH` (R491). -/
def execC16StrhLsi (f : C16.LSI) (s : State) : Host.Outcome State Fault Refusal :=
  c16Store f.rd (addrC16Lsi 1 f) 2 s

/-- `LDRH` (R492). -/
def execC16LdrhLsi (f : C16.LSI) (s : State) : Host.Outcome State Fault Refusal :=
  c16Load f.rd (addrC16Lsi 1 f) 2 (BitVec.ofNat 32) s

/-- `STR` (R493). -/
def execC16StrSpr (f : C16.SPR) (s : State) : Host.Outcome State Fault Refusal :=
  c16Store f.rd (addrSpr f) 4 s

/-- `LDR` (R494). -/
def execC16LdrSpr (f : C16.SPR) (s : State) : Host.Outcome State Fault Refusal :=
  c16Load f.rd (addrSpr f) 4 (BitVec.ofNat 32) s

/-! ### Multiple-register transfers (R504 to R507) -/

/-- A multiple store: the words at rising addresses from `start`, then the base; the values are those before the
instruction (R504, R506). -/
def c16StoreMultiple (list : BitVec 16) (rn : Fin 16) (p u : Bool) (s : State) : Host.Outcome State Fault Refusal :=
  c16Run (fun _ => list != 0) s fun s =>
    let q := resolveMultiple (s.rC rn) (regList list).length p u
    match s.storeWords q.start ((regList list).map s.rC) with
    | (t, some e) => t.dataAbort e
    | (t, none) => (t.setR rn q.newBase).finish2

/-- A multiple load: all words are read, then the base is written, then the loaded registers, then register 15
through `BranchExchange` (R505, R507). -/
def c16LoadMultiple (list : BitVec 16) (rn : Fin 16) (s : State) : Host.Outcome State Fault Refusal :=
  c16Run (fun s => list != 0 && (!list[15] || s.mayBranch)) s fun s =>
    let q := resolveMultiple (s.rC rn) (regList list).length false true
    match s.loadWords q.start (regList list) with
    | .error e => s.dataAbort e
    | .ok vs =>
      let t := (s.setR rn q.newBase).writeLoaded vs
      match loadedPc vs with
      | some w => (t.branchExchange w).advanceIt
      | none => t.finish2

/-- The 16-bit list of `PUSH`: `R` adds register 14. -/
def pushList (f : C16.PP) : BitVec 16 := f.reglist.setWidth 16 ||| (if f.r then 0x4000 else 0)

/-- The 16-bit list of `POP`: `R` adds register 15. -/
def popList (f : C16.PP) : BitVec 16 := f.reglist.setWidth 16 ||| (if f.r then 0x8000 else 0)

/-- `PUSH` (R504). -/
def execC16PushPp (f : C16.PP) (s : State) : Host.Outcome State Fault Refusal :=
  c16StoreMultiple (pushList f) 13 true false s

/-- `POP` (R505). -/
def execC16PopPp (f : C16.PP) (s : State) : Host.Outcome State Fault Refusal :=
  c16LoadMultiple (popList f) 13 s

/-- `STMIA` (R506). -/
def execC16StmiaLsm (f : C16.LSM) (s : State) : Host.Outcome State Fault Refusal :=
  c16StoreMultiple (f.reglist.setWidth 16) (low f.rn) false true s

/-- `LDMIA` (R507). -/
def execC16LdmiaLsm (f : C16.LSM) (s : State) : Host.Outcome State Fault Refusal :=
  c16LoadMultiple (f.reglist.setWidth 16) (low f.rn) s

end Sys2Proof.Machine
end

