-- ==== Sys2Proof/Machine/F32Branch.lean ====
section
/-! DEFINITION. F32 branches and privileged-state-register access (45_f32_branch_system.md). -/

namespace Sys2Proof.Machine

/-! ### Branches (R342 to R346) -/

/-- `ia + 8 + (sext_24(imm24) << 2)` (R342). -/
def State.targetF (s : State) (imm24 : BitVec 24) : Word := s.ia32 + 8#32 + (imm24.signExtend 32 <<< 2)

/-- `B` (R342). -/
def execF32BBr (f : F32.BR) (s : State) : Host.Outcome State Fault Refusal :=
  f32Run f.cond s fun s => s.setPc32 (s.targetF f.imm24)

/-- `BL` (R343). -/
def execF32BlBr (f : F32.BR) (s : State) : Host.Outcome State Fault Refusal :=
  f32Run f.cond s fun s => (s.setR 14 (s.ia32 + 4)).setPc32 (s.targetF f.imm24)

/-- `BX` (R344). -/
def execF32BxMisc (f : F32.BXR) (s : State) : Host.Outcome State Fault Refusal :=
  f32Run f.cond s fun s => s.branchExchange (s.rF f.rm)

/-- `BLX`, immediate (R345): unconditional, enters C16. -/
def execF32BlxBlxi (f : F32.BLXI) (s : State) : Host.Outcome State Fault Refusal :=
  let target := s.targetF f.imm24 + (if f.h then 2 else 0)
  .next ({ (s.setR 14 (s.ia32 + 4)).setPc32 target with mode := .c16 })

/-- `BLX`, register (R346): the target is read before the link register is written. -/
def execF32BlxMisc (f : F32.BXR) (s : State) : Host.Outcome State Fault Refusal :=
  f32Run f.cond s fun s =>
    if f.rm = 15 then s.undef else (s.setR 14 (s.ia32 + 4)).branchExchange (s.rF f.rm)

/-! ### Privileged-state registers (R360 to R362) -/

/-- The cell has this key. -/
def SysCell.hasKey (c : SysCell) (opc1 : BitVec 3) (crn crm : BitVec 4) (opc2 : BitVec 3) : Bool :=
  c.opc1 == opc1 && c.crn == crn && c.crm == crm && c.opc2 == opc2

/-- `SysRegs[k]`, the first cell with the key (R362). -/
def State.sysCell (s : State) (f : F32.SYS) : Option SysCell :=
  s.sysRegs.find? fun c => c.hasKey f.opc1 f.crn f.crm f.opc2

/-- `write(v)` replaces the masked bits (R362). -/
def SysCell.write (c : SysCell) (v : Word) : SysCell := { c with value := (c.value &&& ~~~c.mask) ||| (v &&& c.mask) }

/-- Writes the first cell with the key. -/
def writeCell (opc1 : BitVec 3) (crn crm : BitVec 4) (opc2 : BitVec 3) (v : Word) : List SysCell → List SysCell
  | [] => []
  | c :: cs => if c.hasKey opc1 crn crm opc2 then c.write v :: cs else c :: writeCell opc1 crn crm opc2 v cs

/-- `SYSR` (R360). -/
def execF32SysrSys (f : F32.SYS) (s : State) : Host.Outcome State Fault Refusal :=
  f32Run f.cond s fun s =>
    if s.priv = .user ∨ f.rt = 15 then s.undef
    else
      match s.sysCell f with
      | none => s.undef
      | some c => if c.readable then (s.setR f.rt c.value).next4 else s.undef

/-- `SYSW` (R361). -/
def execF32SyswSys (f : F32.SYS) (s : State) : Host.Outcome State Fault Refusal :=
  f32Run f.cond s fun s =>
    if s.priv = .user ∨ f.rt = 15 then s.undef
    else
      match s.sysCell f with
      | none => s.undef
      | some c =>
        if c.writable then
          State.next4 { s with sysRegs := writeCell f.opc1 f.crn f.crm f.opc2 (s.rF f.rt) s.sysRegs }
        else s.undef

end Sys2Proof.Machine
end

