-- ==== Sys2Proof/Machine/F32Data.lean ====
section
/-! DEFINITION. F32 data-processing, multiply, saturating and status-register instructions
(43_f32_data_processing.md). -/

namespace Sys2Proof.Machine

/-! ### Data-processing (R250 to R269) -/

/-- What an opcode computes: a logical result, or the sum of an arithmetic opcode (R250). -/
inductive AluOut where
  | logical (res : Word)
  | arithmetic (sum : Sum 32)
deriving DecidableEq, Repr

def AluOut.res : AluOut → Word
  | .logical r => r
  | .arithmetic t => t.res

/-- The flags of an opcode with `S = 1` (R250, 40_condition_shifter.md R161). -/
def AluOut.flags (o : AluOut) (f : Flags) (shifterCarry : Bool) : Flags :=
  match o with
  | .logical r => f.logical r shifterCarry
  | .arithmetic t => f.arithmetic t.res t.carry t.overflow

/-- An opcode: from the operands `a`, `b` and the flag `C` before the instruction. -/
abbrev Alu := Word → Word → Bool → AluOut

def aluAnd : Alu := fun a b _ => .logical (a &&& b)
def aluEor : Alu := fun a b _ => .logical (a ^^^ b)
def aluSub : Alu := fun a b _ => .arithmetic (addWithCarry a (~~~b) true)
def aluRsb : Alu := fun a b _ => .arithmetic (addWithCarry b (~~~a) true)
def aluAdd : Alu := fun a b _ => .arithmetic (addWithCarry a b false)
def aluAdc : Alu := fun a b c => .arithmetic (addWithCarry a b c)
def aluSbc : Alu := fun a b c => .arithmetic (addWithCarry a (~~~b) c)
def aluRsc : Alu := fun a b c => .arithmetic (addWithCarry b (~~~a) c)
def aluOrr : Alu := fun a b _ => .logical (a ||| b)
def aluMov : Alu := fun _ b _ => .logical b
def aluBic : Alu := fun a b _ => .logical (a &&& ~~~b)
def aluMvn : Alu := fun _ b _ => .logical (~~~b)

/-- The second operand and its shifter carry (R250). -/
def State.op2 (s : State) : F32.Op2 → Shifted
  | .imm rot imm8 => rotatedImm rot imm8 s.flags.c
  | .reg shamt stype rm => shiftImm stype (s.rF rm) shamt s.flags.c
  | .regShift rs stype rm => shiftReg stype (s.rF rm) ((s.rF rs).setWidth 8) s.flags.c

/-- A register field equal to 15 in format F32.DPRS raises `Undefined`, the unused fields included (R251 (b)). -/
def op2Uses15 (o : F32.Op2) (rn rd : Fin 16) : Bool :=
  match o with
  | .regShift rs _ rm => rn == 15 || rd == 15 || rs == 15 || rm == 15
  | _ => false

/-- `DataProcessing` for the opcodes that write `Rd` (R250, R253). -/
def dataProcessing (alu : Alu) (f : F32.DP) (s : State) : Host.Outcome State Fault Refusal :=
  f32Run f.cond s fun s =>
    if op2Uses15 f.op2 f.rn f.rd || (f.s && f.rd == 15) then s.undef
    else
      let b := s.op2 f.op2
      let out := alu (s.rF f.rn) b.value s.flags.c
      let t := if f.s then { s with flags := out.flags s.flags b.carry } else s
      if f.rd = 15 then t.branchF out.res else (t.setR f.rd out.res).next4

/-- `DataProcessing` for the four compare opcodes, which write the flags only (R250). -/
def dataCompare (alu : Alu) (f : F32.DPC) (s : State) : Host.Outcome State Fault Refusal :=
  f32Run f.cond s fun s =>
    if op2Uses15 f.op2 f.rn f.rd then s.undef
    else
      let b := s.op2 f.op2
      let out := alu (s.rF f.rn) b.value s.flags.c
      State.next4 { s with flags := out.flags s.flags b.carry }

/-- `AND` (R254). -/
def execF32And (f : F32.DP) (s : State) : Host.Outcome State Fault Refusal := dataProcessing aluAnd f s

/-- `EOR` (R255). -/
def execF32Eor (f : F32.DP) (s : State) : Host.Outcome State Fault Refusal := dataProcessing aluEor f s

/-- `SUB` (R256). -/
def execF32Sub (f : F32.DP) (s : State) : Host.Outcome State Fault Refusal := dataProcessing aluSub f s

/-- `RSB` (R257). -/
def execF32Rsb (f : F32.DP) (s : State) : Host.Outcome State Fault Refusal := dataProcessing aluRsb f s

/-- `ADD` (R258). -/
def execF32Add (f : F32.DP) (s : State) : Host.Outcome State Fault Refusal := dataProcessing aluAdd f s

/-- `ADC` (R259). -/
def execF32Adc (f : F32.DP) (s : State) : Host.Outcome State Fault Refusal := dataProcessing aluAdc f s

/-- `SBC` (R260). -/
def execF32Sbc (f : F32.DP) (s : State) : Host.Outcome State Fault Refusal := dataProcessing aluSbc f s

/-- `RSC` (R261). -/
def execF32Rsc (f : F32.DP) (s : State) : Host.Outcome State Fault Refusal := dataProcessing aluRsc f s

/-- `TST` (R262). -/
def execF32Tst (f : F32.DPC) (s : State) : Host.Outcome State Fault Refusal := dataCompare aluAnd f s

/-- `TEQ` (R263). -/
def execF32Teq (f : F32.DPC) (s : State) : Host.Outcome State Fault Refusal := dataCompare aluEor f s

/-- `CMP` (R264). -/
def execF32Cmp (f : F32.DPC) (s : State) : Host.Outcome State Fault Refusal := dataCompare aluSub f s

/-- `CMN` (R265). -/
def execF32Cmn (f : F32.DPC) (s : State) : Host.Outcome State Fault Refusal := dataCompare aluAdd f s

/-- `ORR` (R266). -/
def execF32Orr (f : F32.DP) (s : State) : Host.Outcome State Fault Refusal := dataProcessing aluOrr f s

/-- `MOV` (R267). -/
def execF32Mov (f : F32.DP) (s : State) : Host.Outcome State Fault Refusal := dataProcessing aluMov f s

/-- `BIC` (R268). -/
def execF32Bic (f : F32.DP) (s : State) : Host.Outcome State Fault Refusal := dataProcessing aluBic f s

/-- `MVN` (R269). -/
def execF32Mvn (f : F32.DP) (s : State) : Host.Outcome State Fault Refusal := dataProcessing aluMvn f s

/-! ### Multiplies (R270 to R276) -/

/-- A 32-bit multiply result: `Rd`, and `N`, `Z` with `S = 1` (R270). -/
def State.mulResult (s : State) (setFlags : Bool) (rd : Fin 16) (res : Word) : State :=
  let t := if setFlags then { s with flags := s.flags.setNZ res } else s
  (t.setR rd res).next4

/-- `MUL` (R271). -/
def execF32MulMul (f : F32.MUL) (s : State) : Host.Outcome State Fault Refusal :=
  f32Run f.cond s fun s =>
    if f.rd = 15 ∨ f.rs = 15 ∨ f.rm = 15 then s.undef
    else s.mulResult f.s f.rd (s.rF f.rm * s.rF f.rs)

/-- `MLA` (R272). -/
def execF32MlaMul (f : F32.MLA) (s : State) : Host.Outcome State Fault Refusal :=
  f32Run f.cond s fun s =>
    if f.rd = 15 ∨ f.rn = 15 ∨ f.rs = 15 ∨ f.rm = 15 then s.undef
    else s.mulResult f.s f.rd (s.rF f.rm * s.rF f.rs + s.rF f.rn)

/-- The long multiplies: the 64-bit result from `Rm`, `Rs` and the old `RdHi:RdLo`; `RdLo` is written first, `RdHi`
second (R270). -/
def multiplyLong (mul : Word → Word → DWord → DWord) (f : F32.MULL) (s : State) : Host.Outcome State Fault Refusal :=
  f32Run f.cond s fun s =>
    if f.rdHi = 15 ∨ f.rdLo = 15 ∨ f.rs = 15 ∨ f.rm = 15 then s.undef
    else
      let p := mul (s.rF f.rm) (s.rF f.rs) (s.rF f.rdHi ++ s.rF f.rdLo)
      let t := if f.s then { s with flags := s.flags.setNZ p } else s
      ((t.setR f.rdLo (p.setWidth 32)).setR f.rdHi (p.extractLsb' 32 32)).next4

/-- `UMULL` (R273). -/
def execF32UmullMull (f : F32.MULL) (s : State) : Host.Outcome State Fault Refusal :=
  multiplyLong (fun a b _ => BitVec.ofNat 64 (a.toNat * b.toNat)) f s

/-- `UMLAL` (R274). -/
def execF32UmlalMull (f : F32.MULL) (s : State) : Host.Outcome State Fault Refusal :=
  multiplyLong (fun a b acc => BitVec.ofNat 64 (a.toNat * b.toNat + acc.toNat)) f s

/-- `SMULL` (R275). -/
def execF32SmullMull (f : F32.MULL) (s : State) : Host.Outcome State Fault Refusal :=
  multiplyLong (fun a b _ => BitVec.ofInt 64 (a.toInt * b.toInt)) f s

/-- `SMLAL` (R276). -/
def execF32SmlalMull (f : F32.MULL) (s : State) : Host.Outcome State Fault Refusal :=
  multiplyLong (fun a b acc => BitVec.ofInt 64 (a.toInt * b.toInt + (acc.toNat : Int))) f s

/-! ### Saturating arithmetic (R280 to R284) -/

/-- `Clamp32` (R280): the clamped pattern, and whether a clamp happened. -/
def clamp32 (v : Int) : Int × Bool :=
  if 2 ^ 31 - 1 < v then (2 ^ 31 - 1, true) else if v < -2 ^ 31 then (-2 ^ 31, true) else (v, false)

/-- The four saturating instructions: first source `Rm`, second `Rn`; `Q` is sticky (R280). -/
def saturating (op : Int → Int → Int × Bool) (f : F32.SAT) (s : State) : Host.Outcome State Fault Refusal :=
  f32Run f.cond s fun s =>
    if f.rd = 15 ∨ f.rm = 15 ∨ f.rn = 15 then s.undef
    else
      let res := op (s.rF f.rm).toInt (s.rF f.rn).toInt
      (State.setR { s with flags := s.flags.stickyQ res.2 } f.rd (BitVec.ofInt 32 res.1)).next4

/-- `QADD` (R281). -/
def execF32QaddSat (f : F32.SAT) (s : State) : Host.Outcome State Fault Refusal :=
  saturating (fun m n => clamp32 (m + n)) f s

/-- `QSUB` (R282). -/
def execF32QsubSat (f : F32.SAT) (s : State) : Host.Outcome State Fault Refusal :=
  saturating (fun m n => clamp32 (m - n)) f s

/-- `QDADD` (R283): the doubling saturates on its own. -/
def execF32QdaddSat (f : F32.SAT) (s : State) : Host.Outcome State Fault Refusal :=
  saturating (fun m n =>
    let d := clamp32 (2 * n)
    let res := clamp32 (m + d.1)
    (res.1, d.2 || res.2)) f s

/-- `QDSUB` (R284). -/
def execF32QdsubSat (f : F32.SAT) (s : State) : Host.Outcome State Fault Refusal :=
  saturating (fun m n =>
    let d := clamp32 (2 * n)
    let res := clamp32 (m - d.1)
    (res.1, d.2 || res.2)) f s

/-! ### Status register (R289, R290) -/

/-- `MRS` (R289). -/
def execF32MrsMisc (f : F32.MRS) (s : State) : Host.Outcome State Fault Refusal :=
  f32Run f.cond s fun s => if f.rd = 15 then s.undef else (s.setR f.rd s.sr).next4

/-- The write of `MSR`: the five flags, when the flags field is selected (R290). -/
def State.writeSR (s : State) (fmask : BitVec 4) (v : Word) : State :=
  State.next4 (if fmask[3] then { s with flags := Flags.ofSR v } else s)

/-- `MSR`, register (R290). -/
def execF32MsrMisc (f : F32.MSR) (s : State) : Host.Outcome State Fault Refusal :=
  f32Run f.cond s fun s => if f.rm = 15 then s.undef else s.writeSR f.fmask (s.rF f.rm)

/-- `0xE320F001` to `0xE320F004`, under any condition: yield, wait-for-event, wait-for-interrupt and send-event in the
family. R131 of 30_encoding.md, R364 of 45_f32_branch_system.md, R691 of 70_reset_and_hazards.md, decision D49 and P18 of
93_implementation_defined.md leave these hints unclassified, although the row of `MSR` matches them. Which words the
names stand for is taken from the family (PRESUMED, log entry 26). -/
def hintWord (f : F32.MSRI) : Bool := f.fmask == 0 && f.rot == 0 && decide (1 ≤ f.imm8.toNat ∧ f.imm8.toNat ≤ 4)

/-- `MSR`, immediate (R290); the words of the absent hints raise `Undefined` (60_exceptions.md R632 (b)). -/
def execF32MsrMsri (f : F32.MSRI) (s : State) : Host.Outcome State Fault Refusal :=
  f32Run f.cond s fun s =>
    if hintWord f then s.undef else s.writeSR f.fmask (rotatedImm f.rot f.imm8 s.flags.c).value

end Sys2Proof.Machine
end

