-- ==== Sys2Proof/Machine/F32LoadStore.lean ====
section
/-! DEFINITION. F32 load, store, multiple-register and swap instructions (44_f32_load_store.md). -/

namespace Sys2Proof.Machine

/-! ### Single-register load and store (R300 to R315) -/

/-- Where a single-register access goes: its base register, its offset, the indexing bits, and whether the offset
register is 15 (R300). -/
structure SingleAddr where
  rn : Fin 16
  rmIs15 : Bool
  off : Word
  p : Bool
  u : Bool
  w : Bool

/-- `wback` of R300. -/
def SingleAddr.wback (a : SingleAddr) : Bool := !a.p || a.w

/-- The checks of R300 on the address. -/
def SingleAddr.undefined (a : SingleAddr) : Bool := a.rmIs15 || (a.wback && a.rn == 15)

/-- The address and the new base (R300). -/
def SingleAddr.resolve (a : SingleAddr) (s : State) : Resolved 32 :=
  resolveSingle (s.rF a.rn) a.off a.u a.p a.wback

/-- The addresses of the six formats (42_addressing_modes.md R223); the user-access forms are post-indexed (R312). -/
def addrLsi (f : F32.LSI) : SingleAddr := ⟨f.rn, false, f.imm12.setWidth 32, f.p, f.u, f.w⟩

def addrLsr (f : F32.LSR) (s : State) : SingleAddr :=
  ⟨f.rn, f.rm == 15, (shiftImm f.stype (s.rF f.rm) f.shamt s.flags.c).value, f.p, f.u, f.w⟩

def addrLsit (f : F32.LSIT) : SingleAddr := ⟨f.rn, false, f.imm12.setWidth 32, false, f.u, true⟩

def addrLsrt (f : F32.LSRT) (s : State) : SingleAddr :=
  ⟨f.rn, f.rm == 15, (shiftImm f.stype (s.rF f.rm) f.shamt s.flags.c).value, false, f.u, true⟩

def addrLshi (f : F32.LSHI) : SingleAddr := ⟨f.rn, false, f.imm8.setWidth 32, f.p, f.u, f.w⟩

def addrLshr (f : F32.LSHR) (s : State) : SingleAddr := ⟨f.rn, f.rm == 15, s.rF f.rm, f.p, f.u, f.w⟩

/-- A load of `size` bytes into `rd`: the base is written back first and the loaded value second (R300); a word
loaded for register 15 goes to `BranchExchange` (R302). -/
def loadSingle (s : State) (a : SingleAddr) (acc : Priv) (size : Nat) (extend : Nat → Word) (rd : Fin 16)
    (pcAllowed : Bool) : State :=
  if a.undefined || (rd == 15 && !pcAllowed) then s.undef
  else
    let q := a.resolve s
    match s.load32 acc q.address size with
    | .error e => s.dataAbort e
    | .ok v =>
      let t := s.writeBack32 a.rn q.newBase
      if rd = 15 then t.branchExchange (extend v) else (t.setR rd (extend v)).next4

/-- A store of the low `size` bytes of `rd`, with the value the register had before the instruction (R300, R303). -/
def storeSingle (s : State) (a : SingleAddr) (acc : Priv) (size : Nat) (rd : Fin 16) (pcAllowed : Bool) : State :=
  if a.undefined || (rd == 15 && !pcAllowed) then s.undef
  else
    let q := a.resolve s
    match s.store32 acc q.address size (s.storeValue rd).toNat with
    | .error e => s.dataAbort e
    | .ok t => (t.writeBack32 a.rn q.newBase).next4

/-- The pair `Rd`, `Rd + 1` may not be formed from an odd `Rd` or from 14 (R300). -/
def badPair (rd : Fin 16) : Bool := rd.val % 2 == 1 || rd == 14

/-- The second register of a pair. -/
def pairSecond (rd : Fin 16) : Fin 16 := rd + 1

/-- `LDRD` (R310): two word reads, then the writeback, then the two registers. -/
def loadDouble (s : State) (a : SingleAddr) (rd : Fin 16) : State :=
  if a.undefined || badPair rd then s.undef
  else
    let q := a.resolve s
    match s.load32 s.priv q.address 4 with
    | .error e => s.dataAbort e
    | .ok lo =>
      match s.load32 s.priv (q.address + 4) 4 with
      | .error e => s.dataAbort e
      | .ok hi =>
        (((s.writeBack32 a.rn q.newBase).setR rd (BitVec.ofNat 32 lo)).setR (pairSecond rd) (BitVec.ofNat 32 hi)).next4

/-- `STRD` (R311): two word writes, then the writeback; the first word stays if the second write is refused. -/
def storeDouble (s : State) (a : SingleAddr) (rd : Fin 16) : State :=
  if a.undefined || badPair rd then s.undef
  else
    let q := a.resolve s
    match s.store32 s.priv q.address 4 (s.rF rd).toNat with
    | .error e => s.dataAbort e
    | .ok t =>
      match t.store32 s.priv (q.address + 4) 4 (s.rF (pairSecond rd)).toNat with
      | .error e => t.dataAbort e
      | .ok u => (u.writeBack32 a.rn q.newBase).next4

/-- `LDR` (R302). -/
def execF32LdrLsi (f : F32.LSI) (s : State) : Host.Outcome State Fault Refusal :=
  f32Run f.cond s fun s => loadSingle s (addrLsi f) s.priv 4 (BitVec.ofNat 32) f.rd true

/-- `STR` (R303). -/
def execF32StrLsi (f : F32.LSI) (s : State) : Host.Outcome State Fault Refusal :=
  f32Run f.cond s fun s => storeSingle s (addrLsi f) s.priv 4 f.rd true

/-- `LDRB` (R304). -/
def execF32LdrbLsi (f : F32.LSI) (s : State) : Host.Outcome State Fault Refusal :=
  f32Run f.cond s fun s => loadSingle s (addrLsi f) s.priv 1 (BitVec.ofNat 32) f.rd false

/-- `STRB` (R305). -/
def execF32StrbLsi (f : F32.LSI) (s : State) : Host.Outcome State Fault Refusal :=
  f32Run f.cond s fun s => storeSingle s (addrLsi f) s.priv 1 f.rd false

/-- `LDR` (R302). -/
def execF32LdrLsr (f : F32.LSR) (s : State) : Host.Outcome State Fault Refusal :=
  f32Run f.cond s fun s => loadSingle s (addrLsr f s) s.priv 4 (BitVec.ofNat 32) f.rd true

/-- `STR` (R303). -/
def execF32StrLsr (f : F32.LSR) (s : State) : Host.Outcome State Fault Refusal :=
  f32Run f.cond s fun s => storeSingle s (addrLsr f s) s.priv 4 f.rd true

/-- `LDRB` (R304). -/
def execF32LdrbLsr (f : F32.LSR) (s : State) : Host.Outcome State Fault Refusal :=
  f32Run f.cond s fun s => loadSingle s (addrLsr f s) s.priv 1 (BitVec.ofNat 32) f.rd false

/-- `STRB` (R305). -/
def execF32StrbLsr (f : F32.LSR) (s : State) : Host.Outcome State Fault Refusal :=
  f32Run f.cond s fun s => storeSingle s (addrLsr f s) s.priv 1 f.rd false

/-- `LDRH` (R306). -/
def execF32LdrhLshi (f : F32.LSHI) (s : State) : Host.Outcome State Fault Refusal :=
  f32Run f.cond s fun s => loadSingle s (addrLshi f) s.priv 2 (BitVec.ofNat 32) f.rd false

/-- `STRH` (R307). -/
def execF32StrhLshi (f : F32.LSHI) (s : State) : Host.Outcome State Fault Refusal :=
  f32Run f.cond s fun s => storeSingle s (addrLshi f) s.priv 2 f.rd false

/-- `LDRSB` (R308). -/
def execF32LdrsbLshi (f : F32.LSHI) (s : State) : Host.Outcome State Fault Refusal :=
  f32Run f.cond s fun s => loadSingle s (addrLshi f) s.priv 1 (sextTo 8 32) f.rd false

/-- `LDRSH` (R309). -/
def execF32LdrshLshi (f : F32.LSHI) (s : State) : Host.Outcome State Fault Refusal :=
  f32Run f.cond s fun s => loadSingle s (addrLshi f) s.priv 2 (sextTo 16 32) f.rd false

/-- `LDRD` (R310). -/
def execF32LdrdLshi (f : F32.LSHI) (s : State) : Host.Outcome State Fault Refusal :=
  f32Run f.cond s fun s => loadDouble s (addrLshi f) f.rd

/-- `STRD` (R311). -/
def execF32StrdLshi (f : F32.LSHI) (s : State) : Host.Outcome State Fault Refusal :=
  f32Run f.cond s fun s => storeDouble s (addrLshi f) f.rd

/-- `LDRH` (R306). -/
def execF32LdrhLshr (f : F32.LSHR) (s : State) : Host.Outcome State Fault Refusal :=
  f32Run f.cond s fun s => loadSingle s (addrLshr f s) s.priv 2 (BitVec.ofNat 32) f.rd false

/-- `STRH` (R307). -/
def execF32StrhLshr (f : F32.LSHR) (s : State) : Host.Outcome State Fault Refusal :=
  f32Run f.cond s fun s => storeSingle s (addrLshr f s) s.priv 2 f.rd false

/-- `LDRSB` (R308). -/
def execF32LdrsbLshr (f : F32.LSHR) (s : State) : Host.Outcome State Fault Refusal :=
  f32Run f.cond s fun s => loadSingle s (addrLshr f s) s.priv 1 (sextTo 8 32) f.rd false

/-- `LDRSH` (R309). -/
def execF32LdrshLshr (f : F32.LSHR) (s : State) : Host.Outcome State Fault Refusal :=
  f32Run f.cond s fun s => loadSingle s (addrLshr f s) s.priv 2 (sextTo 16 32) f.rd false

/-- `LDRD` (R310). -/
def execF32LdrdLshr (f : F32.LSHR) (s : State) : Host.Outcome State Fault Refusal :=
  f32Run f.cond s fun s => loadDouble s (addrLshr f s) f.rd

/-- `STRD` (R311). -/
def execF32StrdLshr (f : F32.LSHR) (s : State) : Host.Outcome State Fault Refusal :=
  f32Run f.cond s fun s => storeDouble s (addrLshr f s) f.rd

/-- `LDRT` (R312). -/
def execF32LdrtLsi (f : F32.LSIT) (s : State) : Host.Outcome State Fault Refusal :=
  f32Run f.cond s fun s => loadSingle s (addrLsit f) .user 4 (BitVec.ofNat 32) f.rd false

/-- `STRT` (R313). -/
def execF32StrtLsi (f : F32.LSIT) (s : State) : Host.Outcome State Fault Refusal :=
  f32Run f.cond s fun s => storeSingle s (addrLsit f) .user 4 f.rd false

/-- `LDRBT` (R314). -/
def execF32LdrbtLsi (f : F32.LSIT) (s : State) : Host.Outcome State Fault Refusal :=
  f32Run f.cond s fun s => loadSingle s (addrLsit f) .user 1 (BitVec.ofNat 32) f.rd false

/-- `STRBT` (R315). -/
def execF32StrbtLsi (f : F32.LSIT) (s : State) : Host.Outcome State Fault Refusal :=
  f32Run f.cond s fun s => storeSingle s (addrLsit f) .user 1 f.rd false

/-- `LDRT` (R312). -/
def execF32LdrtLsr (f : F32.LSRT) (s : State) : Host.Outcome State Fault Refusal :=
  f32Run f.cond s fun s => loadSingle s (addrLsrt f s) .user 4 (BitVec.ofNat 32) f.rd false

/-- `STRT` (R313). -/
def execF32StrtLsr (f : F32.LSRT) (s : State) : Host.Outcome State Fault Refusal :=
  f32Run f.cond s fun s => storeSingle s (addrLsrt f s) .user 4 f.rd false

/-- `LDRBT` (R314). -/
def execF32LdrbtLsr (f : F32.LSRT) (s : State) : Host.Outcome State Fault Refusal :=
  f32Run f.cond s fun s => loadSingle s (addrLsrt f s) .user 1 (BitVec.ofNat 32) f.rd false

/-- `STRBT` (R315). -/
def execF32StrbtLsr (f : F32.LSRT) (s : State) : Host.Outcome State Fault Refusal :=
  f32Run f.cond s fun s => storeSingle s (addrLsrt f s) .user 1 f.rd false

/-! ### Multiple-register load and store (R320 to R322) -/

/-- The checks of R320: base 15, the empty list, and with `S = 1` user mode, writeback (decision D22 and P10 of
93_implementation_defined.md, which decide where R320 lists no check; log entry 8), or a load of register 15. -/
def multipleUndefined (f : F32.LSM) (isLoad : Bool) (s : State) : Bool :=
  f.rn == 15 || f.reglist == 0 || (f.s && (s.priv == .user || f.w || (isLoad && f.reglist[15])))

/-- The start address and new base of a multiple transfer (42_addressing_modes.md R226). -/
def multipleAddr (f : F32.LSM) (s : State) : ResolvedMultiple :=
  resolveMultiple (s.rF f.rn) (regList f.reglist).length f.p f.u

/-- The end of a multiple load: the base, then the loaded registers, then register 15 through `BranchExchange`, or
`pc <- next` by `next` (R321, 42_addressing_modes.md R228, R229). -/
def State.finishLoads (s : State) (rn : Fin 16) (newBase : Option Word) (vs : List (Fin 16 × Word))
    (next : State → State) : State :=
  let t := (s.writeBack32 rn newBase).writeLoaded vs
  match loadedPc vs with
  | some w => t.branchExchange w
  | none => next t

/-- `LDM` (R321). -/
def execF32LdmLsm (f : F32.LSM) (s : State) : Host.Outcome State Fault Refusal :=
  f32Run f.cond s fun s =>
    if multipleUndefined f true s then s.undef
    else
      let q := multipleAddr f s
      match s.loadWords q.start (regList f.reglist) with
      | .error e => s.dataAbort e
      | .ok vs => s.finishLoads f.rn (if f.w then some q.newBase else none) vs State.next4

/-- `STM` (R322). -/
def execF32StmLsm (f : F32.LSM) (s : State) : Host.Outcome State Fault Refusal :=
  f32Run f.cond s fun s =>
    if multipleUndefined f false s then s.undef
    else
      let q := multipleAddr f s
      match s.storeWords q.start ((regList f.reglist).map s.storeValue) with
      | (t, some e) => t.dataAbort e
      | (t, none) => (t.writeBack32 f.rn (if f.w then some q.newBase else none)).next4

/-! ### Swap (R330, R331) -/

/-- Taking and freeing the lock of 10_state.md R50. -/
def State.acquire (s : State) : State := { s with lock := .held }

def State.release (s : State) : State := { s with lock := .free }

/-- The critical section of a swap: read, then write, then free the lock; a refused request frees it too (R330). While
another context holds the lock this one makes no progress (20_memory.md R90): the instruction waits. -/
def swap (size : Nat) (f : F32.SWP) (s : State) : Host.Outcome State Fault Refusal :=
  f32Run f.cond s fun s =>
    if f.rd = 15 ∨ f.rm = 15 ∨ f.rn = 15 then s.undef
    else
      match s.lock with
      | .held => s
      | .free =>
        let l := s.acquire
        match l.load32 l.priv (s.rF f.rn) size with
        | .error e => l.release.dataAbort e
        | .ok v =>
          match l.store32 l.priv (s.rF f.rn) size (s.rF f.rm).toNat with
          | .error e => l.release.dataAbort e
          | .ok t => (t.release.setR f.rd (BitVec.ofNat 32 v)).next4

/-- `SWP` (R330). -/
def execF32SwpSwp (f : F32.SWP) (s : State) : Host.Outcome State Fault Refusal := swap 4 f s

/-- `SWPB` (R331). -/
def execF32SwpbSwp (f : F32.SWP) (s : State) : Host.Outcome State Fault Refusal := swap 1 f s

end Sys2Proof.Machine
end

