-- ==== Sys2Proof/Machine/Lanes.lean ====
section
/-! DEFINITION. The lane functions (41_lane_semantics.md R180 to R203): pure, total, on natural-number lane patterns
and exact integers. -/

namespace Sys2Proof.Machine

/-! ### Lanes (R181, R182) -/

/-- `w = 8 << sz` (R181). -/
def laneWidth (sz : BitVec 2) : Nat := 8 * 2 ^ sz.toNat

/-- `L = 64 / w` (R181). -/
def laneCount (w : Nat) : Nat := 64 / w

/-- `Lane(c, w, j)` (R181). -/
def lane (c : DWord) (w j : Nat) : Nat := c.toNat / 2 ^ (w * j) % 2 ^ w

/-- The lanes of `Join` as one number, lane 0 least significant. -/
def joinNat (w : Nat) : List Nat → Nat
  | [] => 0
  | x :: xs => x % 2 ^ w + 2 ^ w * joinNat w xs

/-- `Join(w, xs)` (R181). -/
def joinLanes (w : Nat) (xs : List Nat) : DWord := BitVec.ofNat 64 (joinNat w xs)

/-- `g 0, ..., g (n - 1)`, one entry for each result lane. -/
def eachLane {α : Type} (n : Nat) (g : Nat → α) : List α := (List.range n).map g

/-- A bit per lane, lane 0 in bit 0 (`VSAT`, `VPRED`: R203). -/
def laneMask (ts : List Bool) : BitVec 8 := BitVec.ofNat 8 (joinNat 1 (ts.map Bool.toNat))

/-- `Val(x, w, signed)` (R182). -/
def laneVal (w : Nat) (signed : Bool) (x : Nat) : Int :=
  if signed && decide (2 ^ (w - 1) ≤ x) then (x : Int) - 2 ^ w else x

/-- Reduction of an exact integer to `w` bits (R182). -/
def wrapLane (w : Nat) (v : Int) : Nat := (v % 2 ^ w).toNat

/-! ### Saturation (R184 to R189) -/

/-- `Clamp(s, w, signed)` (R184). -/
def clampLane (w : Nat) (signed : Bool) (v : Int) : Nat × Bool :=
  let lo : Int := if signed then -2 ^ (w - 1) else 0
  let hi : Int := if signed then 2 ^ (w - 1) - 1 else 2 ^ w - 1
  if hi < v then (wrapLane w hi, true) else if v < lo then (wrapLane w lo, true) else (wrapLane w v, false)

/-- `SatAdd` (R185). -/
def satAdd (w : Nat) (signed : Bool) (a b : Nat) : Nat × Bool :=
  clampLane w signed (laneVal w signed a + laneVal w signed b)

/-- `SatSub` (R186). -/
def satSub (w : Nat) (signed : Bool) (a b : Nat) : Nat × Bool :=
  clampLane w signed (laneVal w signed a - laneVal w signed b)

/-- `SatNarrow` (R189). -/
def satNarrow (w : Nat) (signed : Bool) (x : Nat) : Nat × Bool := clampLane (w / 2) signed (laneVal w signed x)

/-- `TruncNarrow` (R189). -/
def truncNarrow (w x : Nat) : Nat := x % 2 ^ (w / 2)

/-! ### Shifts (R190, R191) -/

/-- The amount in a lane of the second operand: its low byte, signed (R190). -/
def laneAmount (x : Nat) : Int := laneVal 8 true (x % 256)

/-- `LaneShr` (R191); the integer division rounds toward minus infinity. -/
def laneShr (w : Nat) (signed rounding : Bool) (x : Nat) (n : Int) : Nat :=
  if n = 0 then x
  else if n < 0 then x * 2 ^ n.natAbs % 2 ^ w
  else
    let v := laneVal w signed x + (if rounding then 2 ^ (n.toNat - 1) else 0)
    wrapLane w (v / 2 ^ n.toNat)

/-! ### Products (R194 to R196) -/

/-- `WidenMul` (R194). -/
def widenMul (w : Nat) (signed : Bool) (a b : Nat) : Nat := wrapLane (2 * w) (laneVal w signed a * laneVal w signed b)

/-- `Dot` (R195). -/
def dotLane (w : Nat) (signed : Bool) (a0 b0 a1 b1 acc : Nat) : Nat :=
  wrapLane (2 * w) (acc + laneVal w signed a0 * laneVal w signed b0 + laneVal w signed a1 * laneVal w signed b1)

/-- `MulHigh` (R196). -/
def mulHigh (w : Nat) (signed rounding : Bool) (a b : Nat) : Nat :=
  wrapLane w ((laneVal w signed a * laneVal w signed b + (if rounding then 2 ^ (w - 1) else 0)) / 2 ^ w)

/-! ### Pack, unpack, interleave (R197) -/

/-- The source lanes of `Pack`: those of `A`, then those of `B`. -/
def packLanes (w : Nat) (a b : DWord) : List Nat :=
  eachLane (laneCount w) (lane a w) ++ eachLane (laneCount w) (lane b w)

/-- `UnpackBottom` and `UnpackTop` (R197). -/
def unpack (w : Nat) (signed top : Bool) (a : DWord) : DWord :=
  let h := laneCount w / 2
  joinLanes (2 * w) (eachLane h fun j => wrapLane (2 * w) (laneVal w signed (lane a w (if top then j + h else j))))

/-- `ZipBottom` and `ZipTop` (R197). -/
def zipLanes (w : Nat) (top : Bool) (a b : DWord) : DWord :=
  let h := laneCount w / 2
  joinLanes w (eachLane (laneCount w) fun k =>
    lane (if k % 2 = 0 then a else b) w (if top then k / 2 + h else k / 2))

/-! ### Floating-point compares (R200 to R202) -/

/-- The number of fraction bits of a format: single or double (R200). -/
def fracBits (w : Nat) : Nat := if w = 32 then 23 else 52

/-- The exponent field (R200). -/
def floatExp (w x : Nat) : Nat := x / 2 ^ fracBits w % 2 ^ (w - 1 - fracBits w)

/-- The fraction field (R200). -/
def floatFrac (w x : Nat) : Nat := x % 2 ^ fracBits w

/-- NaN: exponent all ones, fraction not zero (R200). -/
def isNaN (w x : Nat) : Bool :=
  floatExp w x == 2 ^ (w - 1 - fracBits w) - 1 && floatFrac w x != 0

/-- A NaN whose top fraction bit is 0 (R200). -/
def isSignaling (w x : Nat) : Bool := isNaN w x && decide (floatFrac w x < 2 ^ (fracBits w - 1))

/-- The exact value of a number that is no NaN, in units of the smallest subnormal; an infinity gets the value its
fields would have as a number, which lies beyond every finite one (R200). -/
def floatVal (w x : Nat) : Int :=
  let e := floatExp w x
  let m : Nat := if e = 0 then floatFrac w x else (floatFrac w x + 2 ^ fracBits w) * 2 ^ (e - 1)
  if 2 ^ (w - 1) ≤ x then -(m : Int) else m

/-- The four relations (R201). -/
inductive FloatRel where
  | equal
  | less
  | greater
  | unordered
deriving DecidableEq, Repr

/-- `FCompare`: the relation, and the invalid indication (R201). -/
def floatCompare (w : Nat) (quiet : Bool) (a b : Nat) : FloatRel × Bool :=
  if isNaN w a || isNaN w b then (.unordered, !quiet || isSignaling w a || isSignaling w b)
  else if floatVal w a = floatVal w b then (.equal, false)
  else if floatVal w a < floatVal w b then (.less, false)
  else (.greater, false)

/-- The predicate "equal" (R202). -/
def FloatRel.isEq (r : FloatRel) : Bool := r == .equal

/-- The predicate "greater" (R202). -/
def FloatRel.isGt (r : FloatRel) : Bool := r == .greater

/-- The predicate "greater or equal" (R202). -/
def FloatRel.isGe (r : FloatRel) : Bool := r == .equal || r == .greater

/-- The sign bit cleared, for the absolute-value compares (R202). -/
def clearSign (w x : Nat) : Nat := x % 2 ^ (w - 1)

/-- The flags of `VFCMP` and `VFCMPE` (R202). -/
def Flags.ofRel (f : Flags) (r : FloatRel) : Flags :=
  match r with
  | .equal => f.withNZCV false true true false
  | .less => f.withNZCV true false false false
  | .greater => f.withNZCV false false true false
  | .unordered => f.withNZCV false false true true

end Sys2Proof.Machine
end

