-- ==== Sys2Proof/Machine/F32Vector.lean ====
section
/-! DEFINITION. The vector/float instructions of F32 (46_vector_instructions.md). -/

namespace Sys2Proof.Machine

/-! ### Legality (R381, R382) -/

/-- A lane operation needs the unit enabled and the replication fields 0 (R381). -/
def VecStatus.laneOpsOn (v : VecStatus) : Bool := v.en && v.len == 0 && v.stride == 0

/-- `sz` lies between two values (R382). -/
def szIn (f : F32.VOP) (lo hi : Nat) : Bool := decide (lo ≤ f.sz.toNat) && decide (f.sz.toNat ≤ hi)

/-- The rows of R382, by the `sz` accepted; the suffix `0` stands for `U` must be 0. -/
def szAny (_ : F32.VOP) : Bool := true
def szAny0 (f : F32.VOP) : Bool := !f.u
def szWiden (f : F32.VOP) : Bool := szIn f 0 2
def szWiden0 (f : F32.VOP) : Bool := !f.u && szIn f 0 2
def szNarrow (f : F32.VOP) : Bool := szIn f 1 3
def szNarrow0 (f : F32.VOP) : Bool := !f.u && szIn f 1 3
def szUnpack (f : F32.VOP) : Bool := szIn f 0 2 && f.vm == 0
def szWhole (f : F32.VOP) : Bool := !f.u && f.sz == 0
def szFloat (f : F32.VOP) : Bool := !f.u && szIn f 2 3
def szFloatFlags (f : F32.VOP) : Bool := !f.u && szIn f 2 3 && f.vd == 0

/-- A lane operation: the checks of R381 and R382, then the effect, then `pc <- next` (R380). -/
def laneRun (legal : F32.VOP → Bool) (f : F32.VOP) (s : State) (body : State → State) :
    Host.Outcome State Fault Refusal :=
  f32Run f.cond s fun s => if s.vstat.laneOpsOn && legal f then (body s).next4 else s.undef

/-! ### The status writes (R383) -/

/-- `VSAT <- VSAT | satmask`, `Q <- Q | (satmask != 0)`. -/
def State.recordSat (s : State) (m : BitVec 8) : State :=
  { s with vstat := { s.vstat with sat := s.vstat.sat ||| m }, flags := s.flags.stickyQ (m != 0) }

/-- `VPRED <- predmask`. -/
def State.recordPred (s : State) (m : BitVec 8) : State := { s with vstat := { s.vstat with pred := m } }

/-- `VFSR.IOC <- VFSR.IOC | invalid`. -/
def State.recordInvalid (s : State) (inv : Bool) : State :=
  { s with vstat := { s.vstat with ioc := s.vstat.ioc || inv } }

/-! ### The shapes of a lane operation -/

/-- `signed = (U = 0)` (R380). -/
def signedOp (f : F32.VOP) : Bool := !f.u

/-- Writes the register that `op` computes from `A` and `B`; no status write. -/
def laneCell (legal : F32.VOP → Bool) (op : DWord → DWord → DWord) (f : F32.VOP) (s : State) :
    Host.Outcome State Fault Refusal :=
  laneRun legal f s fun s => s.setV f.vd (op (s.getV f.vn) (s.getV f.vm))

/-- Lane by lane at one width. -/
def laneMap (legal : F32.VOP → Bool) (op : Nat → Nat → Nat → Nat) (f : F32.VOP) (s : State) :
    Host.Outcome State Fault Refusal :=
  let w := laneWidth f.sz
  laneCell legal (fun a b => joinLanes w (eachLane (laneCount w) fun j => op w (lane a w j) (lane b w j))) f s

/-- The widening multiplies: half of the source lanes, result lanes twice as wide (R396, R397). -/
def laneWiden (top : Bool) (f : F32.VOP) (s : State) : Host.Outcome State Fault Refusal :=
  let w := laneWidth f.sz
  let h := laneCount w / 2
  laneCell szWiden (fun a b => joinLanes (2 * w) (eachLane h fun j =>
    let k := if top then j + h else j
    widenMul w (signedOp f) (lane a w k) (lane b w k))) f s

/-- The dot products; `acc` gives lane `j` of the accumulator (R398, R399). -/
def laneDot (acc : State → Nat → Nat) (f : F32.VOP) (s : State) : Host.Outcome State Fault Refusal :=
  let w := laneWidth f.sz
  laneCell szWiden (fun a b => joinLanes (2 * w) (eachLane (laneCount w / 2) fun j =>
    dotLane w (signedOp f) (lane a w (2 * j)) (lane b w (2 * j)) (lane a w (2 * j + 1)) (lane b w (2 * j + 1))
      (acc s j))) f s

/-- Writes lanes with a clamp indication each, and records the clamps (R383). -/
def laneSat (legal : F32.VOP → Bool) (wOut : Nat) (op : DWord → DWord → List (Nat × Bool)) (f : F32.VOP) (s : State) :
    Host.Outcome State Fault Refusal :=
  laneRun legal f s fun s =>
    let rs := op (s.getV f.vn) (s.getV f.vm)
    (s.setV f.vd (joinLanes wOut (rs.map Prod.fst))).recordSat (laneMask (rs.map Prod.snd))

/-- The saturating sum and difference: lane by lane (R392, R393). -/
def laneSatMap (op : Nat → Bool → Nat → Nat → Nat × Bool) (f : F32.VOP) (s : State) :
    Host.Outcome State Fault Refusal :=
  let w := laneWidth f.sz
  laneSat szAny w (fun a b => eachLane (laneCount w) fun j => op w (signedOp f) (lane a w j) (lane b w j)) f s

/-- The mask of a compare: a true lane is all ones (41_lane_semantics.md R199). -/
def maskLanes (w : Nat) (ts : List Bool) : DWord := joinLanes w (ts.map fun t => if t then 2 ^ w - 1 else 0)

/-- The integer compares: the mask and `VPRED` (R420 to R422). -/
def laneCompare (legal : F32.VOP → Bool) (test : Nat → Nat → Nat → Bool) (f : F32.VOP) (s : State) :
    Host.Outcome State Fault Refusal :=
  let w := laneWidth f.sz
  laneRun legal f s fun s =>
    let ts := eachLane (laneCount w) fun j => test w (lane (s.getV f.vn) w j) (lane (s.getV f.vm) w j)
    (s.setV f.vd (maskLanes w ts)).recordPred (laneMask ts)

/-- The float compares that write a mask: the mask, `VPRED` and `IOC` (R425 to R429). -/
def laneFloat (cmp : Nat → Nat → Nat → FloatRel × Bool) (test : FloatRel → Bool) (f : F32.VOP) (s : State) :
    Host.Outcome State Fault Refusal :=
  let w := laneWidth f.sz
  laneRun szFloat f s fun s =>
    let rs := eachLane (laneCount w) fun j => cmp w (lane (s.getV f.vn) w j) (lane (s.getV f.vm) w j)
    let ts := rs.map fun r => test r.1
    ((s.setV f.vd (maskLanes w ts)).recordPred (laneMask ts)).recordInvalid (rs.any Prod.snd)

/-- The float compares that write the flags: lane 0 only (R430, R431). -/
def laneFloatFlags (quiet : Bool) (f : F32.VOP) (s : State) : Host.Outcome State Fault Refusal :=
  let w := laneWidth f.sz
  laneRun szFloatFlags f s fun s =>
    let r := floatCompare w quiet (lane (s.getV f.vn) w 0) (lane (s.getV f.vm) w 0)
    State.recordInvalid { s with flags := s.flags.ofRel r.1 } r.2

/-- `FCompare` on operands with the sign bit cleared (41_lane_semantics.md R202). -/
def absCompare (w : Nat) (a b : Nat) : FloatRel × Bool := floatCompare w false (clearSign w a) (clearSign w b)

/-! ### The lane operations (R390 to R431) -/

/-- `VADD` (R390). -/
def execF32VaddVop (f : F32.VOP) (s : State) : Host.Outcome State Fault Refusal :=
  laneMap szAny0 (fun w a b => (a + b) % 2 ^ w) f s

/-- `VSUB` (R391). -/
def execF32VsubVop (f : F32.VOP) (s : State) : Host.Outcome State Fault Refusal :=
  laneMap szAny0 (fun w a b => wrapLane w ((a : Int) - (b : Int))) f s

/-- `VQADD` (R392). -/
def execF32VqaddVop (f : F32.VOP) (s : State) : Host.Outcome State Fault Refusal := laneSatMap satAdd f s

/-- `VQSUB` (R393). -/
def execF32VqsubVop (f : F32.VOP) (s : State) : Host.Outcome State Fault Refusal := laneSatMap satSub f s

/-- `VSHR` (R394). -/
def execF32VshrVop (f : F32.VOP) (s : State) : Host.Outcome State Fault Refusal :=
  laneMap szAny (fun w a b => laneShr w (signedOp f) false a (laneAmount b)) f s

/-- `VRSHR` (R395). -/
def execF32VrshrVop (f : F32.VOP) (s : State) : Host.Outcome State Fault Refusal :=
  laneMap szAny (fun w a b => laneShr w (signedOp f) true a (laneAmount b)) f s

/-- `VMULLB` (R396). -/
def execF32VmullbVop (f : F32.VOP) (s : State) : Host.Outcome State Fault Refusal := laneWiden false f s

/-- `VMULLT` (R397). -/
def execF32VmulltVop (f : F32.VOP) (s : State) : Host.Outcome State Fault Refusal := laneWiden true f s

/-- `VDOT` (R398). -/
def execF32VdotVop (f : F32.VOP) (s : State) : Host.Outcome State Fault Refusal := laneDot (fun _ _ => 0) f s

/-- `VDOTA` (R399). -/
def execF32VdotaVop (f : F32.VOP) (s : State) : Host.Outcome State Fault Refusal :=
  laneDot (fun s j => lane (s.getV f.vd) (2 * laneWidth f.sz) j) f s

/-- `VMULH` (R400). -/
def execF32VmulhVop (f : F32.VOP) (s : State) : Host.Outcome State Fault Refusal :=
  laneMap szWiden (fun w a b => mulHigh w (signedOp f) false a b) f s

/-- `VRMULH` (R401). -/
def execF32VrmulhVop (f : F32.VOP) (s : State) : Host.Outcome State Fault Refusal :=
  laneMap szWiden (fun w a b => mulHigh w (signedOp f) true a b) f s

/-- `VPACK` (R402). -/
def execF32VpackVop (f : F32.VOP) (s : State) : Host.Outcome State Fault Refusal :=
  let w := laneWidth f.sz
  laneCell szNarrow0 (fun a b => joinLanes (w / 2) ((packLanes w a b).map (truncNarrow w))) f s

/-- `VQPACK` (R403). -/
def execF32VqpackVop (f : F32.VOP) (s : State) : Host.Outcome State Fault Refusal :=
  let w := laneWidth f.sz
  laneSat szNarrow (w / 2) (fun a b => (packLanes w a b).map (satNarrow w (signedOp f))) f s

/-- `VUNPKB` (R404). -/
def execF32VunpkbVop (f : F32.VOP) (s : State) : Host.Outcome State Fault Refusal :=
  laneCell szUnpack (fun a _ => unpack (laneWidth f.sz) (signedOp f) false a) f s

/-- `VUNPKT` (R405). -/
def execF32VunpktVop (f : F32.VOP) (s : State) : Host.Outcome State Fault Refusal :=
  laneCell szUnpack (fun a _ => unpack (laneWidth f.sz) (signedOp f) true a) f s

/-- `VZIPB` (R410). -/
def execF32VzipbVop (f : F32.VOP) (s : State) : Host.Outcome State Fault Refusal :=
  laneCell szWiden0 (zipLanes (laneWidth f.sz) false) f s

/-- `VZIPT` (R411). -/
def execF32VziptVop (f : F32.VOP) (s : State) : Host.Outcome State Fault Refusal :=
  laneCell szWiden0 (zipLanes (laneWidth f.sz) true) f s

/-- `VAND` (R412). -/
def execF32VandVop (f : F32.VOP) (s : State) : Host.Outcome State Fault Refusal :=
  laneCell szWhole (fun a b => a &&& b) f s

/-- `VORR` (R413). -/
def execF32VorrVop (f : F32.VOP) (s : State) : Host.Outcome State Fault Refusal :=
  laneCell szWhole (fun a b => a ||| b) f s

/-- `VEOR` (R414). -/
def execF32VeorVop (f : F32.VOP) (s : State) : Host.Outcome State Fault Refusal :=
  laneCell szWhole (fun a b => a ^^^ b) f s

/-- `VCEQ` (R420). -/
def execF32VceqVop (f : F32.VOP) (s : State) : Host.Outcome State Fault Refusal :=
  laneCompare szAny0 (fun _ a b => a == b) f s

/-- `VCGT` (R421). -/
def execF32VcgtVop (f : F32.VOP) (s : State) : Host.Outcome State Fault Refusal :=
  laneCompare szAny (fun w a b => decide (laneVal w (signedOp f) b < laneVal w (signedOp f) a)) f s

/-- `VCGE` (R422). -/
def execF32VcgeVop (f : F32.VOP) (s : State) : Host.Outcome State Fault Refusal :=
  laneCompare szAny (fun w a b => decide (laneVal w (signedOp f) b ≤ laneVal w (signedOp f) a)) f s

/-- `VFCEQ` (R425). -/
def execF32VfceqVop (f : F32.VOP) (s : State) : Host.Outcome State Fault Refusal :=
  laneFloat (fun w => floatCompare w true) FloatRel.isEq f s

/-- `VFCGE` (R426). -/
def execF32VfcgeVop (f : F32.VOP) (s : State) : Host.Outcome State Fault Refusal :=
  laneFloat (fun w => floatCompare w false) FloatRel.isGe f s

/-- `VFCGT` (R427). -/
def execF32VfcgtVop (f : F32.VOP) (s : State) : Host.Outcome State Fault Refusal :=
  laneFloat (fun w => floatCompare w false) FloatRel.isGt f s

/-- `VFACGE` (R428). -/
def execF32VfacgeVop (f : F32.VOP) (s : State) : Host.Outcome State Fault Refusal :=
  laneFloat absCompare FloatRel.isGe f s

/-- `VFACGT` (R429). -/
def execF32VfacgtVop (f : F32.VOP) (s : State) : Host.Outcome State Fault Refusal :=
  laneFloat absCompare FloatRel.isGt f s

/-- `VFCMP` (R430). -/
def execF32VfcmpVop (f : F32.VOP) (s : State) : Host.Outcome State Fault Refusal := laneFloatFlags true f s

/-- `VFCMPE` (R431). -/
def execF32VfcmpeVop (f : F32.VOP) (s : State) : Host.Outcome State Fault Refusal := laneFloatFlags false f s

/-! ### Transfers (R432, R433) -/

/-- `VMOVTV` (R432). -/
def execF32VmovtvVxfer (f : F32.VXFER) (s : State) : Host.Outcome State Fault Refusal :=
  f32Run f.cond s fun s =>
    if !s.vstat.en || f.rt == 15 || f.rt2 == 15 then s.undef
    else (s.setV f.vm (s.rF f.rt2 ++ s.rF f.rt)).next4

/-- `VMOVFV` (R433). -/
def execF32VmovfvVxfer (f : F32.VXFER) (s : State) : Host.Outcome State Fault Refusal :=
  f32Run f.cond s fun s =>
    if !s.vstat.en || f.rt == 15 || f.rt2 == 15 || f.rt == f.rt2 then s.undef
    else
      let v := s.getV f.vm
      ((s.setR f.rt (v.setWidth 32)).setR f.rt2 (v.extractLsb' 32 32)).next4

/-! ### Control registers (R434, R435) -/

/-- The value `VMRS` reads, if the access is legal: `VCTL` always, the other three while the unit is enabled. -/
def VecStatus.readControl (v : VecStatus) (vcn : BitVec 4) : Option Word :=
  match vcn.toNat with
  | 0 => some v.vctl
  | 1 => if v.en then some v.vfsr else none
  | 2 => if v.en then some v.vsat else none
  | 3 => if v.en then some v.vpred else none
  | _ => none

/-- What `VMSR` leaves, if the access is legal: `VCTL` from privileged mode only, the other three while the unit is
enabled; bits outside the masks are ignored. -/
def VecStatus.writeControl (v : VecStatus) (priv : Priv) (vcn : BitVec 4) (x : Word) : Option VecStatus :=
  match vcn.toNat with
  | 0 => if priv = .privileged then some { v with en := x[0] } else none
  | 1 => if v.en then some { v with ioc := x[0], len := x.extractLsb' 8 3, stride := x.extractLsb' 12 2 } else none
  | 2 => if v.en then some { v with sat := x.setWidth 8 } else none
  | 3 => if v.en then some { v with pred := x.setWidth 8 } else none
  | _ => none

/-- `VMRS` (R434). -/
def execF32VmrsVctl (f : F32.VCTL) (s : State) : Host.Outcome State Fault Refusal :=
  f32Run f.cond s fun s =>
    if f.rt = 15 then s.undef
    else
      match s.vstat.readControl f.vcn with
      | none => s.undef
      | some v => (s.setR f.rt v).next4

/-- `VMSR` (R435). -/
def execF32VmsrVctl (f : F32.VCTL) (s : State) : Host.Outcome State Fault Refusal :=
  f32Run f.cond s fun s =>
    if f.rt = 15 then s.undef
    else
      match s.vstat.writeControl s.priv f.vcn (s.rF f.rt) with
      | none => s.undef
      | some v => State.next4 { s with vstat := v }

/-! ### Vector load and store (R436, R437) -/

/-- The checks: the unit enabled, no writeback to register 15. -/
def vlsUndefined (f : F32.VLS) (s : State) : Bool := !s.vstat.en || (f.w && f.rn == 15)

/-- The address and the new base; the offset is `imm8 * 4`. -/
def vlsAddr (f : F32.VLS) (s : State) : Resolved 32 :=
  resolveSingle (s.rF f.rn) (f.imm8.setWidth 32 <<< 2) f.u f.p f.w

/-- `VLDR` (R436): one 8-byte access, then the register, then the writeback. -/
def execF32VldrVls (f : F32.VLS) (s : State) : Host.Outcome State Fault Refusal :=
  f32Run f.cond s fun s =>
    if vlsUndefined f s then s.undef
    else
      let q := vlsAddr f s
      match s.load32 s.priv q.address 8 with
      | .error e => s.dataAbort e
      | .ok v => ((s.setV f.vd (BitVec.ofNat 64 v)).writeBack32 f.rn q.newBase).next4

/-- `VSTR` (R437). -/
def execF32VstrVls (f : F32.VLS) (s : State) : Host.Outcome State Fault Refusal :=
  f32Run f.cond s fun s =>
    if vlsUndefined f s then s.undef
    else
      let q := vlsAddr f s
      match s.store32 s.priv q.address 8 (s.getV f.vd).toNat with
      | .error e => s.dataAbort e
      | .ok t => (t.writeBack32 f.rn q.newBase).next4

end Sys2Proof.Machine
end

