-- ==== Sys2Proof/Machine/W64Branch.lean ====
section
/-! DEFINITION. W64 branches (48_w64.md R537 to R546). -/

namespace Sys2Proof.Machine

/-- A branch to an offset from `ia`, taken or not; the offset is a multiple of 4 (R537). -/
def w64Relative (taken : Bool) (off : DWord) (s : State) : Host.Outcome State Fault Refusal :=
  .next (if taken then { s with pc := s.pc + (off <<< 2) } else s.nextW)

/-- The register read at the width `sf` selects is zero (R540). -/
def isZeroAt (sf : Bool) (v : DWord) : Bool := if sf then v == 0 else v.setWidth 32 == 0#32

/-- `B` (R537). -/
def execW64BBi (f : W64.BI) (s : State) : Host.Outcome State Fault Refusal :=
  w64Relative true (f.imm26.signExtend 64) s

/-- `BL` (R538). -/
def execW64BlBi (f : W64.BI) (s : State) : Host.Outcome State Fault Refusal :=
  w64Relative true (f.imm26.signExtend 64) (s.setX 30 (s.pc + 4))

/-- `B.cond` (R539). -/
def execW64BcondBc (f : W64.BC) (s : State) : Host.Outcome State Fault Refusal :=
  w64Relative (s.flags.condPassed f.cond) (f.imm19.signExtend 64) s

/-- `CBZ` (R540). -/
def execW64CbzCb (f : W64.CB) (s : State) : Host.Outcome State Fault Refusal :=
  w64Relative (isZeroAt f.sf (s.getX f.rt)) (f.imm19.signExtend 64) s

/-- `CBNZ` (R541). -/
def execW64CbnzCb (f : W64.CB) (s : State) : Host.Outcome State Fault Refusal :=
  w64Relative (!isZeroAt f.sf (s.getX f.rt)) (f.imm19.signExtend 64) s

/-- `TBZ` (R542). -/
def execW64TbzTb (f : W64.TB) (s : State) : Host.Outcome State Fault Refusal :=
  w64Relative (!(s.getX f.rt).getLsbD f.bit.toNat) (f.imm14.signExtend 64) s

/-- `TBNZ` (R543). -/
def execW64TbnzTb (f : W64.TB) (s : State) : Host.Outcome State Fault Refusal :=
  w64Relative ((s.getX f.rt).getLsbD f.bit.toNat) (f.imm14.signExtend 64) s

/-- `BR` (R544). -/
def execW64BrBreg (f : W64.BREG) (s : State) : Host.Outcome State Fault Refusal :=
  .next (s.branchW (s.getX f.rn))

/-- `BLR` (R545): the target is read before the link register is written. -/
def execW64BlrBreg (f : W64.BREG) (s : State) : Host.Outcome State Fault Refusal :=
  .next ((s.setX 30 (s.pc + 4)).branchW (s.getX f.rn))

/-- `RET` (R546). -/
def execW64RetBreg (f : W64.BREG) (s : State) : Host.Outcome State Fault Refusal :=
  .next (s.branchW (s.getX f.rn))

end Sys2Proof.Machine
end

