-- ==== Sys2Proof/Machine/W64Data.lean ====
section
/-! DEFINITION. W64 data-processing and system instructions (48_w64.md R510 to R536, R547 to R564, R589 to R591). -/

namespace Sys2Proof.Machine

/-! ### Operand width (R512) -/

/-- A result at the width `sf` selects, zero-extended: `op` gets the width and the reading of a register at it. -/
def atWidth (sf : Bool) (op : (w : Nat) → (DWord → BitVec w) → BitVec w) : DWord :=
  if sf then op 64 id else (op 32 (BitVec.setWidth 32)).setWidth 64

/-- A result without flags: `X(Rd)` and `pc <- next`. -/
def w64Write (rd : Fin 32) (v : DWord) (s : State) : Host.Outcome State Fault Refusal := .next (s.setX rd v).nextW

/-- A sum at the width `sf` selects: its value zero-extended, and the flags (R514). -/
def sumAt (sf : Bool) (f : Flags) (op : (w : Nat) → (DWord → BitVec w) → Sum w) : DWord × Flags :=
  if sf then
    let t := op 64 id
    (t.res, f.arithmetic t.res t.carry t.overflow)
  else
    let t := op 32 (BitVec.setWidth 32)
    (t.res.setWidth 64, f.arithmetic t.res t.carry t.overflow)

/-- A logical result at the width `sf` selects; `C` and `V` are cleared (R514). -/
def logicalAt (sf : Bool) (f : Flags) (op : (w : Nat) → (DWord → BitVec w) → BitVec w) : DWord × Flags :=
  if sf then
    let r := op 64 id
    (r, f.arithmetic r false false)
  else
    let r := op 32 (BitVec.setWidth 32)
    (r.setWidth 64, f.arithmetic r false false)

/-- A result with flags: `X(Rd)`, the flags, `pc <- next`. -/
def w64WriteFlags (rd : Fin 32) (r : DWord × Flags) (s : State) : Host.Outcome State Fault Refusal :=
  .next (State.nextW ({ s with flags := r.2 }.setX rd r.1))

/-! ### Add and subtract, immediate (R516 to R519) -/

/-- `imm12 << (12 * sh)` (R516). -/
def immAsi (f : W64.ASI) : DWord := f.imm12.setWidth 64 <<< (if f.sh then 12 else 0)

/-- `ADD` (R516). -/
def execW64AddAsi (f : W64.ASI) (s : State) : Host.Outcome State Fault Refusal :=
  .next (s.setXsp f.rd (atWidth f.sf fun _ t => t (s.getXsp f.rn) + t (immAsi f))).nextW

/-- `ADDS` (R517). -/
def execW64AddsAsi (f : W64.ASI) (s : State) : Host.Outcome State Fault Refusal :=
  w64WriteFlags f.rd (sumAt f.sf s.flags fun _ t => addWithCarry (t (s.getXsp f.rn)) (t (immAsi f)) false) s

/-- `SUB` (R518). -/
def execW64SubAsi (f : W64.ASI) (s : State) : Host.Outcome State Fault Refusal :=
  .next (s.setXsp f.rd (atWidth f.sf fun _ t => t (s.getXsp f.rn) - t (immAsi f))).nextW

/-- `SUBS` (R519). -/
def execW64SubsAsi (f : W64.ASI) (s : State) : Host.Outcome State Fault Refusal :=
  w64WriteFlags f.rd (sumAt f.sf s.flags fun _ t => addWithCarry (t (s.getXsp f.rn)) (~~~(t (immAsi f))) true) s

/-! ### Add and subtract, shifted register (R520 to R523) -/

/-- `ADD` (R520). -/
def execW64AddAsr (f : W64.ASR) (s : State) : Host.Outcome State Fault Refusal :=
  w64Write f.rd (atWidth f.sf fun _ t => t (s.getX f.rn) + shiftW f.shift (t (s.getX f.rm)) f.imm6.toNat) s

/-- `ADDS` (R521). -/
def execW64AddsAsr (f : W64.ASR) (s : State) : Host.Outcome State Fault Refusal :=
  w64WriteFlags f.rd (sumAt f.sf s.flags fun _ t =>
    addWithCarry (t (s.getX f.rn)) (shiftW f.shift (t (s.getX f.rm)) f.imm6.toNat) false) s

/-- `SUB` (R522). -/
def execW64SubAsr (f : W64.ASR) (s : State) : Host.Outcome State Fault Refusal :=
  w64Write f.rd (atWidth f.sf fun _ t => t (s.getX f.rn) - shiftW f.shift (t (s.getX f.rm)) f.imm6.toNat) s

/-- `SUBS` (R523). -/
def execW64SubsAsr (f : W64.ASR) (s : State) : Host.Outcome State Fault Refusal :=
  w64WriteFlags f.rd (sumAt f.sf s.flags fun _ t =>
    addWithCarry (t (s.getX f.rn)) (~~~(shiftW f.shift (t (s.getX f.rm)) f.imm6.toNat)) true) s

/-! ### Logical, shifted register (R524 to R531) -/

/-- `AND` (R524). -/
def execW64AndLogr (f : W64.LOGR) (s : State) : Host.Outcome State Fault Refusal :=
  w64Write f.rd (atWidth f.sf fun _ t => t (s.getX f.rn) &&& (shiftW f.shift (t (s.getX f.rm)) f.imm6.toNat)) s

/-- `BIC` (R525). -/
def execW64BicLogr (f : W64.LOGR) (s : State) : Host.Outcome State Fault Refusal :=
  w64Write f.rd (atWidth f.sf fun _ t => t (s.getX f.rn) &&& ~~~(shiftW f.shift (t (s.getX f.rm)) f.imm6.toNat)) s

/-- `ORR` (R526). -/
def execW64OrrLogr (f : W64.LOGR) (s : State) : Host.Outcome State Fault Refusal :=
  w64Write f.rd (atWidth f.sf fun _ t => t (s.getX f.rn) ||| (shiftW f.shift (t (s.getX f.rm)) f.imm6.toNat)) s

/-- `ORN` (R527). -/
def execW64OrnLogr (f : W64.LOGR) (s : State) : Host.Outcome State Fault Refusal :=
  w64Write f.rd (atWidth f.sf fun _ t => t (s.getX f.rn) ||| ~~~(shiftW f.shift (t (s.getX f.rm)) f.imm6.toNat)) s

/-- `EOR` (R528). -/
def execW64EorLogr (f : W64.LOGR) (s : State) : Host.Outcome State Fault Refusal :=
  w64Write f.rd (atWidth f.sf fun _ t => t (s.getX f.rn) ^^^ (shiftW f.shift (t (s.getX f.rm)) f.imm6.toNat)) s

/-- `EON` (R529). -/
def execW64EonLogr (f : W64.LOGR) (s : State) : Host.Outcome State Fault Refusal :=
  w64Write f.rd (atWidth f.sf fun _ t => t (s.getX f.rn) ^^^ ~~~(shiftW f.shift (t (s.getX f.rm)) f.imm6.toNat)) s

/-- `ANDS` (R530). -/
def execW64AndsLogr (f : W64.LOGR) (s : State) : Host.Outcome State Fault Refusal :=
  w64WriteFlags f.rd (logicalAt f.sf s.flags fun _ t =>
    t (s.getX f.rn) &&& (shiftW f.shift (t (s.getX f.rm)) f.imm6.toNat)) s

/-- `BICS` (R531). -/
def execW64BicsLogr (f : W64.LOGR) (s : State) : Host.Outcome State Fault Refusal :=
  w64WriteFlags f.rd (logicalAt f.sf s.flags fun _ t =>
    t (s.getX f.rn) &&& ~~~(shiftW f.shift (t (s.getX f.rm)) f.imm6.toNat)) s

/-! ### Wide immediates and pc-relative addresses (R532 to R536) -/

/-- `pos = 16 * hw` (R532). -/
def movPos (f : W64.MOVW) : Nat := 16 * f.hw.toNat

/-- A 16-bit field at `pos` in a register. -/
def movField (v : BitVec 16) (pos : Nat) : DWord := v.setWidth 64 <<< pos

/-- `MOVN` (R532). -/
def execW64MovnMovw (f : W64.MOVW) (s : State) : Host.Outcome State Fault Refusal :=
  w64Write f.rd (atWidth f.sf fun _ t => ~~~(t (movField f.imm16 (movPos f)))) s

/-- `MOVZ` (R533). -/
def execW64MovzMovw (f : W64.MOVW) (s : State) : Host.Outcome State Fault Refusal :=
  w64Write f.rd (atWidth f.sf fun _ t => t (movField f.imm16 (movPos f))) s

/-- `MOVK` (R534). -/
def execW64MovkMovw (f : W64.MOVW) (s : State) : Host.Outcome State Fault Refusal :=
  w64Write f.rd (atWidth f.sf fun _ t =>
    t ((s.getX f.rd &&& ~~~(movField (BitVec.allOnes 16) (movPos f))) ||| movField f.imm16 (movPos f))) s

/-- `ADR` (R535). -/
def execW64AdrAdr (f : W64.ADR) (s : State) : Host.Outcome State Fault Refusal :=
  w64Write f.rd (s.pc + f.imm21.signExtend 64) s

/-- `ADRP` (R536). -/
def execW64AdrpAdr (f : W64.ADR) (s : State) : Host.Outcome State Fault Refusal :=
  w64Write f.rd ((s.pc &&& ~~~0xFFF#64) + (f.imm21.signExtend 64 <<< 12)) s

/-! ### Conditional select (R547 to R550) -/

/-- `p ? X(Rn) : g(X(Rm))` at width `W` (R547). -/
def w64Select (g : (w : Nat) → BitVec w → BitVec w) (f : W64.CSEL) (s : State) : Host.Outcome State Fault Refusal :=
  w64Write f.rd (atWidth f.sf fun w t =>
    if s.flags.condPassed f.cond then t (s.getX f.rn) else g w (t (s.getX f.rm))) s

/-- `CSEL` (R547). -/
def execW64CselCsel (f : W64.CSEL) (s : State) : Host.Outcome State Fault Refusal :=
  w64Select (fun _ v => v) f s

/-- `CSINC` (R548). -/
def execW64CsincCsel (f : W64.CSEL) (s : State) : Host.Outcome State Fault Refusal :=
  w64Select (fun _ v => v + 1) f s

/-- `CSINV` (R549). -/
def execW64CsinvCsel (f : W64.CSEL) (s : State) : Host.Outcome State Fault Refusal :=
  w64Select (fun _ v => ~~~v) f s

/-- `CSNEG` (R550). -/
def execW64CsnegCsel (f : W64.CSEL) (s : State) : Host.Outcome State Fault Refusal :=
  w64Select (fun _ v => 0 - v) f s

/-! ### Two-source data processing (R551 to R556) -/

/-- A function of `X(Rn)` and `X(Rm)` at width `W`. -/
def w64Two (g : (w : Nat) → BitVec w → BitVec w → BitVec w) (f : W64.DP2) (s : State) : Host.Outcome State Fault Refusal :=
  w64Write f.rd (atWidth f.sf fun w t => g w (t (s.getX f.rn)) (t (s.getX f.rm))) s

/-- The amount of a variable shift is taken modulo `W` (R513). -/
def shiftVar (k : ShiftKind) (w : Nat) (a b : BitVec w) : BitVec w := shiftW k a (b.toNat % w)

/-- `UDIV` (R551). -/
def execW64UdivDp2 (f : W64.DP2) (s : State) : Host.Outcome State Fault Refusal :=
  w64Two (fun w a b => if b = 0 then 0 else BitVec.ofNat w (a.toNat / b.toNat)) f s

/-- `SDIV` (R552): the quotient rounds toward zero. -/
def execW64SdivDp2 (f : W64.DP2) (s : State) : Host.Outcome State Fault Refusal :=
  w64Two (fun w a b => if b = 0 then 0 else BitVec.ofInt w (a.toInt.tdiv b.toInt)) f s

/-- `LSLV` (R553). -/
def execW64LslvDp2 (f : W64.DP2) (s : State) : Host.Outcome State Fault Refusal :=
  w64Two (shiftVar .lsl) f s

/-- `LSRV` (R554). -/
def execW64LsrvDp2 (f : W64.DP2) (s : State) : Host.Outcome State Fault Refusal :=
  w64Two (shiftVar .lsr) f s

/-- `ASRV` (R555). -/
def execW64AsrvDp2 (f : W64.DP2) (s : State) : Host.Outcome State Fault Refusal :=
  w64Two (shiftVar .asr) f s

/-- `RORV` (R556). -/
def execW64RorvDp2 (f : W64.DP2) (s : State) : Host.Outcome State Fault Refusal :=
  w64Two (shiftVar .ror) f s

/-! ### Multiply (R557 to R564) -/

/-- `MADD` (R557). -/
def execW64MaddDp3 (f : W64.DP3) (s : State) : Host.Outcome State Fault Refusal :=
  w64Write f.rd (atWidth f.sf fun _ t => t (s.getX f.ra) + t (s.getX f.rn) * t (s.getX f.rm)) s

/-- `MSUB` (R558). -/
def execW64MsubDp3 (f : W64.DP3) (s : State) : Host.Outcome State Fault Refusal :=
  w64Write f.rd (atWidth f.sf fun _ t => t (s.getX f.ra) - t (s.getX f.rn) * t (s.getX f.rm)) s

/-- The 64-bit product of the low words, signed or unsigned (R559, R562). -/
def mulLong (signed : Bool) (a b : DWord) : DWord :=
  let a : Word := a.setWidth 32
  let b : Word := b.setWidth 32
  if signed then BitVec.ofInt 64 (a.toInt * b.toInt) else BitVec.ofNat 64 (a.toNat * b.toNat)

/-- `SMADDL` (R559). -/
def execW64SmaddlDp3 (f : W64.DP3L) (s : State) : Host.Outcome State Fault Refusal :=
  w64Write f.rd (s.getX f.ra + mulLong true (s.getX f.rn) (s.getX f.rm)) s

/-- `SMSUBL` (R560). -/
def execW64SmsublDp3 (f : W64.DP3L) (s : State) : Host.Outcome State Fault Refusal :=
  w64Write f.rd (s.getX f.ra - mulLong true (s.getX f.rn) (s.getX f.rm)) s

/-- `SMULH` (R561). -/
def execW64SmulhDp3 (f : W64.MULH) (s : State) : Host.Outcome State Fault Refusal :=
  w64Write f.rd (BitVec.ofInt 64 ((s.getX f.rn).toInt * (s.getX f.rm).toInt / 2 ^ 64)) s

/-- `UMADDL` (R562). -/
def execW64UmaddlDp3 (f : W64.DP3L) (s : State) : Host.Outcome State Fault Refusal :=
  w64Write f.rd (s.getX f.ra + mulLong false (s.getX f.rn) (s.getX f.rm)) s

/-- `UMSUBL` (R563). -/
def execW64UmsublDp3 (f : W64.DP3L) (s : State) : Host.Outcome State Fault Refusal :=
  w64Write f.rd (s.getX f.ra - mulLong false (s.getX f.rn) (s.getX f.rm)) s

/-- `UMULH` (R564). -/
def execW64UmulhDp3 (f : W64.MULH) (s : State) : Host.Outcome State Fault Refusal :=
  w64Write f.rd (BitVec.ofNat 64 ((s.getX f.rn).toNat * (s.getX f.rm).toNat / 2 ^ 64)) s

/-! ### System (R589 to R591) -/

/-- `NOP` (R589). -/
def execW64NopSys (s : State) : Host.Outcome State Fault Refusal :=
  .next s.nextW

/-- `MRS` (R590). -/
def execW64MrsSys (f : W64.SYS) (s : State) : Host.Outcome State Fault Refusal :=
  w64Write f.rt s.pstate s

/-- `MSR` (R591). -/
def execW64MsrSys (f : W64.SYS) (s : State) : Host.Outcome State Fault Refusal :=
  .next (State.nextW { s with flags := s.flags.withPstate (s.getX f.rt) })

end Sys2Proof.Machine
end

