-- ==== Sys2Proof/Machine/W64LoadStore.lean ====
section
/-! DEFINITION. W64 loads and stores (48_w64.md R565 to R581). -/

namespace Sys2Proof.Machine

/-- The address of a single-register access of `2 ^ k` bytes, and the base written back (R565,
42_addressing_modes.md R235). -/
def w64Addr (k : Nat) (f : W64.LS) (s : State) : Resolved 64 :=
  let base := s.getXsp f.rn
  match f.addr with
  | .unsigned imm12 => ⟨base + (imm12.setWidth 64 <<< k), none⟩
  | .signed imm9 idx => resolveSingle base (imm9.signExtend 64) true (idx != 1) (idx == 1 || idx == 3)
  | .reg rm option sc => ⟨base + (extendOffset option (s.getX rm) <<< (if sc then k else 0)), none⟩

/-- A load of `2 ^ k` bytes: the read, the base, then `X(Rt)` (R565). -/
def w64Load (k : Nat) (extend : Nat → DWord) (f : W64.LS) (s : State) : Host.Outcome State Fault Refusal :=
  let q := w64Addr k f s
  .next (match s.load .wide s.priv q.address (2 ^ k) with
    | .error e => s.dataAbort e
    | .ok v => ((s.writeBackX f.rn q.newBase).setX f.rt (extend v)).nextW)

/-- A store of `2 ^ k` bytes: the write of the value `X(Rt)` had, then the base (R565). -/
def w64Store (k : Nat) (f : W64.LS) (s : State) : Host.Outcome State Fault Refusal :=
  let q := w64Addr k f s
  .next (match s.store .wide s.priv q.address (2 ^ k) (s.getX f.rt).toNat with
    | .error e => s.dataAbort e
    | .ok t => (t.writeBackX f.rn q.newBase).nextW)

/-- Sign-extension of `n` bits to the low word, zero-extended to 64 bits (R569). -/
def sextWord (n v : Nat) : DWord := (sextTo n 32 v).setWidth 64

/-- `STRB` (R566). -/
def execW64Strb (f : W64.LS) (s : State) : Host.Outcome State Fault Refusal :=
  w64Store 0 f s

/-- `LDRB` (R567). -/
def execW64Ldrb (f : W64.LS) (s : State) : Host.Outcome State Fault Refusal :=
  w64Load 0 (BitVec.ofNat 64) f s

/-- `LDRSB` (R568). -/
def execW64Ldrsb (f : W64.LS) (s : State) : Host.Outcome State Fault Refusal :=
  w64Load 0 (sextTo 8 64) f s

/-- `LDRSBW` (R569). -/
def execW64Ldrsbw (f : W64.LS) (s : State) : Host.Outcome State Fault Refusal :=
  w64Load 0 (sextWord 8) f s

/-- `STRH` (R570). -/
def execW64Strh (f : W64.LS) (s : State) : Host.Outcome State Fault Refusal :=
  w64Store 1 f s

/-- `LDRH` (R571). -/
def execW64Ldrh (f : W64.LS) (s : State) : Host.Outcome State Fault Refusal :=
  w64Load 1 (BitVec.ofNat 64) f s

/-- `LDRSH` (R572). -/
def execW64Ldrsh (f : W64.LS) (s : State) : Host.Outcome State Fault Refusal :=
  w64Load 1 (sextTo 16 64) f s

/-- `LDRSHW` (R573). -/
def execW64Ldrshw (f : W64.LS) (s : State) : Host.Outcome State Fault Refusal :=
  w64Load 1 (sextWord 16) f s

/-- `STRW` (R574). -/
def execW64Strw (f : W64.LS) (s : State) : Host.Outcome State Fault Refusal :=
  w64Store 2 f s

/-- `LDRW` (R575). -/
def execW64Ldrw (f : W64.LS) (s : State) : Host.Outcome State Fault Refusal :=
  w64Load 2 (BitVec.ofNat 64) f s

/-- `LDRSW` (R576). -/
def execW64Ldrsw (f : W64.LS) (s : State) : Host.Outcome State Fault Refusal :=
  w64Load 2 (sextTo 32 64) f s

/-- `STRX` (R577). -/
def execW64Strx (f : W64.LS) (s : State) : Host.Outcome State Fault Refusal :=
  w64Store 3 f s

/-- `LDRX` (R578). -/
def execW64Ldrx (f : W64.LS) (s : State) : Host.Outcome State Fault Refusal :=
  w64Load 3 (BitVec.ofNat 64) f s

/-- A literal load: a data read relative to `ia` (R579). -/
def w64Literal (size : Nat) (extend : Nat → DWord) (f : W64.LIT) (s : State) : Host.Outcome State Fault Refusal :=
  .next (match s.load .wide s.priv (s.pc + (f.imm19.signExtend 64 <<< 2)) size with
    | .error e => s.dataAbort e
    | .ok v => (s.setX f.rt (extend v)).nextW)

/-- `LDRW` (R579). -/
def execW64LdrwLit (f : W64.LIT) (s : State) : Host.Outcome State Fault Refusal :=
  w64Literal 4 (BitVec.ofNat 64) f s

/-- `LDRX` (R579). -/
def execW64LdrxLit (f : W64.LIT) (s : State) : Host.Outcome State Fault Refusal :=
  w64Literal 8 (BitVec.ofNat 64) f s

/-- `LDRSW` (R579). -/
def execW64LdrswLit (f : W64.LIT) (s : State) : Host.Outcome State Fault Refusal :=
  w64Literal 4 (sextTo 32 64) f s

/-- The bytes of one register of a pair (R580). -/
def pairBytes (f : W64.LSP) : Nat := if f.sf then 8 else 4

/-- The address of a pair and the base written back (R580). -/
def pairAddr (f : W64.LSP) (s : State) : Resolved 64 :=
  resolveSingle (s.getXsp f.rn) (f.imm7.signExtend 64 <<< (if f.sf then 3 else 2)) true (f.idx != 1)
    (f.idx == 1 || f.idx == 3)

/-- `STP` (R580): two requests, the lower address first; the first stays written if the second is refused. -/
def execW64StpLsp (f : W64.LSP) (s : State) : Host.Outcome State Fault Refusal :=
  let q := pairAddr f s
  let n := pairBytes f
  .next (match s.store .wide s.priv q.address n (s.getX f.rt).toNat with
    | .error e => s.dataAbort e
    | .ok t =>
      match t.store .wide s.priv (q.address + BitVec.ofNat 64 n) n (s.getX f.rt2).toNat with
      | .error e => t.dataAbort e
      | .ok u => (u.writeBackX f.rn q.newBase).nextW)

/-- `LDP` (R581): two requests, the base, `X(Rt)`, `X(Rt2)`. -/
def execW64LdpLsp (f : W64.LSP) (s : State) : Host.Outcome State Fault Refusal :=
  let q := pairAddr f s
  let n := pairBytes f
  .next (match s.load .wide s.priv q.address n with
    | .error e => s.dataAbort e
    | .ok v1 =>
      match s.load .wide s.priv (q.address + BitVec.ofNat 64 n) n with
      | .error e => s.dataAbort e
      | .ok v2 =>
        (((s.writeBackX f.rn q.newBase).setX f.rt (BitVec.ofNat 64 v1)).setX f.rt2 (BitVec.ofNat 64 v2)).nextW)

end Sys2Proof.Machine
end

