-- ==== Sys2Proof/Machine/Dispatch.lean ====
section
/-! DEFINITION. The meaning of every instruction: one arm per constructor, one direct call each. -/

namespace Sys2Proof.Machine

def exec (i : Instr) (s : State) : Host.Outcome State Fault Refusal :=
  match i with
  | .f32And f => Sys2Proof.Machine.execF32And f s
  | .f32Eor f => Sys2Proof.Machine.execF32Eor f s
  | .f32Sub f => Sys2Proof.Machine.execF32Sub f s
  | .f32Rsb f => Sys2Proof.Machine.execF32Rsb f s
  | .f32Add f => Sys2Proof.Machine.execF32Add f s
  | .f32Adc f => Sys2Proof.Machine.execF32Adc f s
  | .f32Sbc f => Sys2Proof.Machine.execF32Sbc f s
  | .f32Rsc f => Sys2Proof.Machine.execF32Rsc f s
  | .f32Tst f => Sys2Proof.Machine.execF32Tst f s
  | .f32Teq f => Sys2Proof.Machine.execF32Teq f s
  | .f32Cmp f => Sys2Proof.Machine.execF32Cmp f s
  | .f32Cmn f => Sys2Proof.Machine.execF32Cmn f s
  | .f32Orr f => Sys2Proof.Machine.execF32Orr f s
  | .f32Mov f => Sys2Proof.Machine.execF32Mov f s
  | .f32Bic f => Sys2Proof.Machine.execF32Bic f s
  | .f32Mvn f => Sys2Proof.Machine.execF32Mvn f s
  | .f32MulMul f => Sys2Proof.Machine.execF32MulMul f s
  | .f32MlaMul f => Sys2Proof.Machine.execF32MlaMul f s
  | .f32UmullMull f => Sys2Proof.Machine.execF32UmullMull f s
  | .f32UmlalMull f => Sys2Proof.Machine.execF32UmlalMull f s
  | .f32SmullMull f => Sys2Proof.Machine.execF32SmullMull f s
  | .f32SmlalMull f => Sys2Proof.Machine.execF32SmlalMull f s
  | .f32SwpSwp f => Sys2Proof.Machine.execF32SwpSwp f s
  | .f32SwpbSwp f => Sys2Proof.Machine.execF32SwpbSwp f s
  | .f32MrsMisc f => Sys2Proof.Machine.execF32MrsMisc f s
  | .f32MsrMisc f => Sys2Proof.Machine.execF32MsrMisc f s
  | .f32MsrMsri f => Sys2Proof.Machine.execF32MsrMsri f s
  | .f32BxMisc f => Sys2Proof.Machine.execF32BxMisc f s
  | .f32BlxMisc f => Sys2Proof.Machine.execF32BlxMisc f s
  | .f32QaddSat f => Sys2Proof.Machine.execF32QaddSat f s
  | .f32QsubSat f => Sys2Proof.Machine.execF32QsubSat f s
  | .f32QdaddSat f => Sys2Proof.Machine.execF32QdaddSat f s
  | .f32QdsubSat f => Sys2Proof.Machine.execF32QdsubSat f s
  | .f32StrhLshi f => Sys2Proof.Machine.execF32StrhLshi f s
  | .f32StrhLshr f => Sys2Proof.Machine.execF32StrhLshr f s
  | .f32LdrdLshi f => Sys2Proof.Machine.execF32LdrdLshi f s
  | .f32LdrdLshr f => Sys2Proof.Machine.execF32LdrdLshr f s
  | .f32StrdLshi f => Sys2Proof.Machine.execF32StrdLshi f s
  | .f32StrdLshr f => Sys2Proof.Machine.execF32StrdLshr f s
  | .f32LdrhLshi f => Sys2Proof.Machine.execF32LdrhLshi f s
  | .f32LdrhLshr f => Sys2Proof.Machine.execF32LdrhLshr f s
  | .f32LdrsbLshi f => Sys2Proof.Machine.execF32LdrsbLshi f s
  | .f32LdrsbLshr f => Sys2Proof.Machine.execF32LdrsbLshr f s
  | .f32LdrshLshi f => Sys2Proof.Machine.execF32LdrshLshi f s
  | .f32LdrshLshr f => Sys2Proof.Machine.execF32LdrshLshr f s
  | .f32StrLsi f => Sys2Proof.Machine.execF32StrLsi f s
  | .f32StrLsr f => Sys2Proof.Machine.execF32StrLsr f s
  | .f32StrtLsi f => Sys2Proof.Machine.execF32StrtLsi f s
  | .f32StrtLsr f => Sys2Proof.Machine.execF32StrtLsr f s
  | .f32LdrLsi f => Sys2Proof.Machine.execF32LdrLsi f s
  | .f32LdrLsr f => Sys2Proof.Machine.execF32LdrLsr f s
  | .f32LdrtLsi f => Sys2Proof.Machine.execF32LdrtLsi f s
  | .f32LdrtLsr f => Sys2Proof.Machine.execF32LdrtLsr f s
  | .f32StrbLsi f => Sys2Proof.Machine.execF32StrbLsi f s
  | .f32StrbLsr f => Sys2Proof.Machine.execF32StrbLsr f s
  | .f32StrbtLsi f => Sys2Proof.Machine.execF32StrbtLsi f s
  | .f32StrbtLsr f => Sys2Proof.Machine.execF32StrbtLsr f s
  | .f32LdrbLsi f => Sys2Proof.Machine.execF32LdrbLsi f s
  | .f32LdrbLsr f => Sys2Proof.Machine.execF32LdrbLsr f s
  | .f32LdrbtLsi f => Sys2Proof.Machine.execF32LdrbtLsi f s
  | .f32LdrbtLsr f => Sys2Proof.Machine.execF32LdrbtLsr f s
  | .f32StmLsm f => Sys2Proof.Machine.execF32StmLsm f s
  | .f32LdmLsm f => Sys2Proof.Machine.execF32LdmLsm f s
  | .f32BBr f => Sys2Proof.Machine.execF32BBr f s
  | .f32BlBr f => Sys2Proof.Machine.execF32BlBr f s
  | .f32BlxBlxi f => Sys2Proof.Machine.execF32BlxBlxi f s
  | .f32VaddVop f => Sys2Proof.Machine.execF32VaddVop f s
  | .f32VsubVop f => Sys2Proof.Machine.execF32VsubVop f s
  | .f32VqaddVop f => Sys2Proof.Machine.execF32VqaddVop f s
  | .f32VqsubVop f => Sys2Proof.Machine.execF32VqsubVop f s
  | .f32VshrVop f => Sys2Proof.Machine.execF32VshrVop f s
  | .f32VrshrVop f => Sys2Proof.Machine.execF32VrshrVop f s
  | .f32VmullbVop f => Sys2Proof.Machine.execF32VmullbVop f s
  | .f32VmulltVop f => Sys2Proof.Machine.execF32VmulltVop f s
  | .f32VdotVop f => Sys2Proof.Machine.execF32VdotVop f s
  | .f32VdotaVop f => Sys2Proof.Machine.execF32VdotaVop f s
  | .f32VmulhVop f => Sys2Proof.Machine.execF32VmulhVop f s
  | .f32VrmulhVop f => Sys2Proof.Machine.execF32VrmulhVop f s
  | .f32VpackVop f => Sys2Proof.Machine.execF32VpackVop f s
  | .f32VqpackVop f => Sys2Proof.Machine.execF32VqpackVop f s
  | .f32VunpkbVop f => Sys2Proof.Machine.execF32VunpkbVop f s
  | .f32VunpktVop f => Sys2Proof.Machine.execF32VunpktVop f s
  | .f32VzipbVop f => Sys2Proof.Machine.execF32VzipbVop f s
  | .f32VziptVop f => Sys2Proof.Machine.execF32VziptVop f s
  | .f32VandVop f => Sys2Proof.Machine.execF32VandVop f s
  | .f32VorrVop f => Sys2Proof.Machine.execF32VorrVop f s
  | .f32VeorVop f => Sys2Proof.Machine.execF32VeorVop f s
  | .f32VceqVop f => Sys2Proof.Machine.execF32VceqVop f s
  | .f32VcgtVop f => Sys2Proof.Machine.execF32VcgtVop f s
  | .f32VcgeVop f => Sys2Proof.Machine.execF32VcgeVop f s
  | .f32VfceqVop f => Sys2Proof.Machine.execF32VfceqVop f s
  | .f32VfcgeVop f => Sys2Proof.Machine.execF32VfcgeVop f s
  | .f32VfcgtVop f => Sys2Proof.Machine.execF32VfcgtVop f s
  | .f32VfacgeVop f => Sys2Proof.Machine.execF32VfacgeVop f s
  | .f32VfacgtVop f => Sys2Proof.Machine.execF32VfacgtVop f s
  | .f32VfcmpVop f => Sys2Proof.Machine.execF32VfcmpVop f s
  | .f32VfcmpeVop f => Sys2Proof.Machine.execF32VfcmpeVop f s
  | .f32VmovtvVxfer f => Sys2Proof.Machine.execF32VmovtvVxfer f s
  | .f32VmovfvVxfer f => Sys2Proof.Machine.execF32VmovfvVxfer f s
  | .f32VmsrVctl f => Sys2Proof.Machine.execF32VmsrVctl f s
  | .f32VmrsVctl f => Sys2Proof.Machine.execF32VmrsVctl f s
  | .f32VstrVls f => Sys2Proof.Machine.execF32VstrVls f s
  | .f32VldrVls f => Sys2Proof.Machine.execF32VldrVls f s
  | .f32SyswSys f => Sys2Proof.Machine.execF32SyswSys f s
  | .f32SysrSys f => Sys2Proof.Machine.execF32SysrSys f s
  | .c16LslsShi f => Sys2Proof.Machine.execC16LslsShi f s
  | .c16LsrsShi f => Sys2Proof.Machine.execC16LsrsShi f s
  | .c16AsrsShi f => Sys2Proof.Machine.execC16AsrsShi f s
  | .c16AddsAs3 f => Sys2Proof.Machine.execC16AddsAs3 f s
  | .c16SubsAs3 f => Sys2Proof.Machine.execC16SubsAs3 f s
  | .c16AddsAs3i f => Sys2Proof.Machine.execC16AddsAs3i f s
  | .c16SubsAs3i f => Sys2Proof.Machine.execC16SubsAs3i f s
  | .c16MovsI8 f => Sys2Proof.Machine.execC16MovsI8 f s
  | .c16CmpI8 f => Sys2Proof.Machine.execC16CmpI8 f s
  | .c16AddsI8 f => Sys2Proof.Machine.execC16AddsI8 f s
  | .c16SubsI8 f => Sys2Proof.Machine.execC16SubsI8 f s
  | .c16AndsAlu f => Sys2Proof.Machine.execC16AndsAlu f s
  | .c16EorsAlu f => Sys2Proof.Machine.execC16EorsAlu f s
  | .c16LslsAlu f => Sys2Proof.Machine.execC16LslsAlu f s
  | .c16LsrsAlu f => Sys2Proof.Machine.execC16LsrsAlu f s
  | .c16AsrsAlu f => Sys2Proof.Machine.execC16AsrsAlu f s
  | .c16AdcsAlu f => Sys2Proof.Machine.execC16AdcsAlu f s
  | .c16SbcsAlu f => Sys2Proof.Machine.execC16SbcsAlu f s
  | .c16RorsAlu f => Sys2Proof.Machine.execC16RorsAlu f s
  | .c16TstAlu f => Sys2Proof.Machine.execC16TstAlu f s
  | .c16NegsAlu f => Sys2Proof.Machine.execC16NegsAlu f s
  | .c16CmpAlu f => Sys2Proof.Machine.execC16CmpAlu f s
  | .c16CmnAlu f => Sys2Proof.Machine.execC16CmnAlu f s
  | .c16OrrsAlu f => Sys2Proof.Machine.execC16OrrsAlu f s
  | .c16MulsAlu f => Sys2Proof.Machine.execC16MulsAlu f s
  | .c16BicsAlu f => Sys2Proof.Machine.execC16BicsAlu f s
  | .c16MvnsAlu f => Sys2Proof.Machine.execC16MvnsAlu f s
  | .c16AddHi f => Sys2Proof.Machine.execC16AddHi f s
  | .c16CmpHi f => Sys2Proof.Machine.execC16CmpHi f s
  | .c16MovHi f => Sys2Proof.Machine.execC16MovHi f s
  | .c16BxBx f => Sys2Proof.Machine.execC16BxBx f s
  | .c16BlxBx f => Sys2Proof.Machine.execC16BlxBx f s
  | .c16LdrLit f => Sys2Proof.Machine.execC16LdrLit f s
  | .c16StrLsr f => Sys2Proof.Machine.execC16StrLsr f s
  | .c16StrhLsr f => Sys2Proof.Machine.execC16StrhLsr f s
  | .c16StrbLsr f => Sys2Proof.Machine.execC16StrbLsr f s
  | .c16LdrsbLsr f => Sys2Proof.Machine.execC16LdrsbLsr f s
  | .c16LdrLsr f => Sys2Proof.Machine.execC16LdrLsr f s
  | .c16LdrhLsr f => Sys2Proof.Machine.execC16LdrhLsr f s
  | .c16LdrbLsr f => Sys2Proof.Machine.execC16LdrbLsr f s
  | .c16LdrshLsr f => Sys2Proof.Machine.execC16LdrshLsr f s
  | .c16StrLsi f => Sys2Proof.Machine.execC16StrLsi f s
  | .c16LdrLsi f => Sys2Proof.Machine.execC16LdrLsi f s
  | .c16StrbLsi f => Sys2Proof.Machine.execC16StrbLsi f s
  | .c16LdrbLsi f => Sys2Proof.Machine.execC16LdrbLsi f s
  | .c16StrhLsi f => Sys2Proof.Machine.execC16StrhLsi f s
  | .c16LdrhLsi f => Sys2Proof.Machine.execC16LdrhLsi f s
  | .c16StrSpr f => Sys2Proof.Machine.execC16StrSpr f s
  | .c16LdrSpr f => Sys2Proof.Machine.execC16LdrSpr f s
  | .c16AdrAdr f => Sys2Proof.Machine.execC16AdrAdr f s
  | .c16AddAdr f => Sys2Proof.Machine.execC16AddAdr f s
  | .c16AddSpa f => Sys2Proof.Machine.execC16AddSpa f s
  | .c16SubSpa f => Sys2Proof.Machine.execC16SubSpa f s
  | .c16PushPp f => Sys2Proof.Machine.execC16PushPp f s
  | .c16PopPp f => Sys2Proof.Machine.execC16PopPp f s
  | .c16NopHint => Sys2Proof.Machine.execC16NopHint s
  | .c16ItIt f => Sys2Proof.Machine.execC16ItIt f s
  | .c16StmiaLsm f => Sys2Proof.Machine.execC16StmiaLsm f s
  | .c16LdmiaLsm f => Sys2Proof.Machine.execC16LdmiaLsm f s
  | .c16BBc f => Sys2Proof.Machine.execC16BBc f s
  | .c16BB f => Sys2Proof.Machine.execC16BB f s
  | .c16BlxBl2 f => Sys2Proof.Machine.execC16BlxBl2 f s
  | .c16BlBl1 f => Sys2Proof.Machine.execC16BlBl1 f s
  | .c16BlBl2 f => Sys2Proof.Machine.execC16BlBl2 f s
  | .w64AddAsi f => Sys2Proof.Machine.execW64AddAsi f s
  | .w64AddsAsi f => Sys2Proof.Machine.execW64AddsAsi f s
  | .w64SubAsi f => Sys2Proof.Machine.execW64SubAsi f s
  | .w64SubsAsi f => Sys2Proof.Machine.execW64SubsAsi f s
  | .w64AddAsr f => Sys2Proof.Machine.execW64AddAsr f s
  | .w64AddsAsr f => Sys2Proof.Machine.execW64AddsAsr f s
  | .w64SubAsr f => Sys2Proof.Machine.execW64SubAsr f s
  | .w64SubsAsr f => Sys2Proof.Machine.execW64SubsAsr f s
  | .w64AndLogr f => Sys2Proof.Machine.execW64AndLogr f s
  | .w64BicLogr f => Sys2Proof.Machine.execW64BicLogr f s
  | .w64OrrLogr f => Sys2Proof.Machine.execW64OrrLogr f s
  | .w64OrnLogr f => Sys2Proof.Machine.execW64OrnLogr f s
  | .w64EorLogr f => Sys2Proof.Machine.execW64EorLogr f s
  | .w64EonLogr f => Sys2Proof.Machine.execW64EonLogr f s
  | .w64AndsLogr f => Sys2Proof.Machine.execW64AndsLogr f s
  | .w64BicsLogr f => Sys2Proof.Machine.execW64BicsLogr f s
  | .w64MovnMovw f => Sys2Proof.Machine.execW64MovnMovw f s
  | .w64MovzMovw f => Sys2Proof.Machine.execW64MovzMovw f s
  | .w64MovkMovw f => Sys2Proof.Machine.execW64MovkMovw f s
  | .w64AdrAdr f => Sys2Proof.Machine.execW64AdrAdr f s
  | .w64AdrpAdr f => Sys2Proof.Machine.execW64AdrpAdr f s
  | .w64BBi f => Sys2Proof.Machine.execW64BBi f s
  | .w64BlBi f => Sys2Proof.Machine.execW64BlBi f s
  | .w64BcondBc f => Sys2Proof.Machine.execW64BcondBc f s
  | .w64CbzCb f => Sys2Proof.Machine.execW64CbzCb f s
  | .w64CbnzCb f => Sys2Proof.Machine.execW64CbnzCb f s
  | .w64TbzTb f => Sys2Proof.Machine.execW64TbzTb f s
  | .w64TbnzTb f => Sys2Proof.Machine.execW64TbnzTb f s
  | .w64BrBreg f => Sys2Proof.Machine.execW64BrBreg f s
  | .w64BlrBreg f => Sys2Proof.Machine.execW64BlrBreg f s
  | .w64RetBreg f => Sys2Proof.Machine.execW64RetBreg f s
  | .w64CselCsel f => Sys2Proof.Machine.execW64CselCsel f s
  | .w64CsincCsel f => Sys2Proof.Machine.execW64CsincCsel f s
  | .w64CsinvCsel f => Sys2Proof.Machine.execW64CsinvCsel f s
  | .w64CsnegCsel f => Sys2Proof.Machine.execW64CsnegCsel f s
  | .w64UdivDp2 f => Sys2Proof.Machine.execW64UdivDp2 f s
  | .w64SdivDp2 f => Sys2Proof.Machine.execW64SdivDp2 f s
  | .w64LslvDp2 f => Sys2Proof.Machine.execW64LslvDp2 f s
  | .w64LsrvDp2 f => Sys2Proof.Machine.execW64LsrvDp2 f s
  | .w64AsrvDp2 f => Sys2Proof.Machine.execW64AsrvDp2 f s
  | .w64RorvDp2 f => Sys2Proof.Machine.execW64RorvDp2 f s
  | .w64MaddDp3 f => Sys2Proof.Machine.execW64MaddDp3 f s
  | .w64MsubDp3 f => Sys2Proof.Machine.execW64MsubDp3 f s
  | .w64SmaddlDp3 f => Sys2Proof.Machine.execW64SmaddlDp3 f s
  | .w64SmsublDp3 f => Sys2Proof.Machine.execW64SmsublDp3 f s
  | .w64SmulhDp3 f => Sys2Proof.Machine.execW64SmulhDp3 f s
  | .w64UmaddlDp3 f => Sys2Proof.Machine.execW64UmaddlDp3 f s
  | .w64UmsublDp3 f => Sys2Proof.Machine.execW64UmsublDp3 f s
  | .w64UmulhDp3 f => Sys2Proof.Machine.execW64UmulhDp3 f s
  | .w64Strb f => Sys2Proof.Machine.execW64Strb f s
  | .w64Ldrb f => Sys2Proof.Machine.execW64Ldrb f s
  | .w64Ldrsb f => Sys2Proof.Machine.execW64Ldrsb f s
  | .w64Ldrsbw f => Sys2Proof.Machine.execW64Ldrsbw f s
  | .w64Strh f => Sys2Proof.Machine.execW64Strh f s
  | .w64Ldrh f => Sys2Proof.Machine.execW64Ldrh f s
  | .w64Ldrsh f => Sys2Proof.Machine.execW64Ldrsh f s
  | .w64Ldrshw f => Sys2Proof.Machine.execW64Ldrshw f s
  | .w64Strw f => Sys2Proof.Machine.execW64Strw f s
  | .w64Ldrw f => Sys2Proof.Machine.execW64Ldrw f s
  | .w64Ldrsw f => Sys2Proof.Machine.execW64Ldrsw f s
  | .w64Strx f => Sys2Proof.Machine.execW64Strx f s
  | .w64Ldrx f => Sys2Proof.Machine.execW64Ldrx f s
  | .w64LdrwLit f => Sys2Proof.Machine.execW64LdrwLit f s
  | .w64LdrxLit f => Sys2Proof.Machine.execW64LdrxLit f s
  | .w64LdrswLit f => Sys2Proof.Machine.execW64LdrswLit f s
  | .w64StpLsp f => Sys2Proof.Machine.execW64StpLsp f s
  | .w64LdpLsp f => Sys2Proof.Machine.execW64LdpLsp f s
  | .w64NopSys => Sys2Proof.Machine.execW64NopSys s
  | .w64MrsSys f => Sys2Proof.Machine.execW64MrsSys f s
  | .w64MsrSys f => Sys2Proof.Machine.execW64MsrSys f s

end Sys2Proof.Machine
end

