-- ==== Sys2Proof/WellFormed.lean ====
section
/-! DEFINITION. Which terms of `Instr` are instructions: the constraints of spec/opcode_table.json, format by format
(30_encoding.md R101, R137). Register numbers are in range by their types (R102). -/

namespace Sys2Proof

/-- `cond != 1111` (R103). -/
def condOk (c : Cond) : Bool := c != 15

/-- `not (P == 0 and W == 1)` (R110, R111). -/
def indexOk (p w : Bool) : Bool := !(!p && w)

/-- `not (P == 0 and W == 0)` of `VLDR` and `VSTR` (R114). -/
def vectorIndexOk (p w : Bool) : Bool := !(!p && !w)

/-- `not (sf == 0 and imm6[5] == 1)` (R124). -/
def shiftAmountOk (sf : Bool) (imm6 : BitVec 6) : Bool := sf || decide (imm6.toNat < 32)

/-- `not (sf == 0 and hw[1] == 1)` (R124). -/
def halfwordOk (sf : Bool) (hw : BitVec 2) : Bool := sf || decide (hw.toNat < 2)

/-- The constraints of format W64.LS9 (`idx != 10`) and W64.LSX (`option[1] == 1`) (R127). -/
def W64.Addr.wf : W64.Addr → Bool
  | .unsigned _ => true
  | .signed _ idx => idx != 2
  | .reg _ option _ => option[1]

/-- The constraints of the rows of format F32.DP. -/
def F32.DP.wf (f : F32.DP) : Bool := condOk f.cond

/-- The constraints of the rows of format F32.DPC. -/
def F32.DPC.wf (f : F32.DPC) : Bool := condOk f.cond

/-- The constraints of the rows of format F32.MUL. -/
def F32.MUL.wf (f : F32.MUL) : Bool := condOk f.cond

/-- The constraints of the rows of format F32.MLA. -/
def F32.MLA.wf (f : F32.MLA) : Bool := condOk f.cond

/-- The constraints of the rows of format F32.MULL. -/
def F32.MULL.wf (f : F32.MULL) : Bool := condOk f.cond

/-- The constraints of the rows of format F32.SWP. -/
def F32.SWP.wf (f : F32.SWP) : Bool := condOk f.cond

/-- The constraints of the rows of format F32.SAT. -/
def F32.SAT.wf (f : F32.SAT) : Bool := condOk f.cond

/-- The constraints of the rows of format F32.MRS. -/
def F32.MRS.wf (f : F32.MRS) : Bool := condOk f.cond

/-- The constraints of the rows of format F32.MSR. -/
def F32.MSR.wf (f : F32.MSR) : Bool := condOk f.cond

/-- The constraints of the rows of format F32.MSRI. -/
def F32.MSRI.wf (f : F32.MSRI) : Bool := condOk f.cond

/-- The constraints of the rows of format F32.BXR. -/
def F32.BXR.wf (f : F32.BXR) : Bool := condOk f.cond

/-- The constraints of the rows of format F32.LSHI. -/
def F32.LSHI.wf (f : F32.LSHI) : Bool := condOk f.cond && indexOk f.p f.w

/-- The constraints of the rows of format F32.LSHR. -/
def F32.LSHR.wf (f : F32.LSHR) : Bool := condOk f.cond && indexOk f.p f.w

/-- The constraints of the rows of format F32.LSI. -/
def F32.LSI.wf (f : F32.LSI) : Bool := condOk f.cond && indexOk f.p f.w

/-- The constraints of the rows of format F32.LSR. -/
def F32.LSR.wf (f : F32.LSR) : Bool := condOk f.cond && indexOk f.p f.w

/-- The constraints of the rows of format F32.LSIT. -/
def F32.LSIT.wf (f : F32.LSIT) : Bool := condOk f.cond

/-- The constraints of the rows of format F32.LSRT. -/
def F32.LSRT.wf (f : F32.LSRT) : Bool := condOk f.cond

/-- The constraints of the rows of format F32.LSM. -/
def F32.LSM.wf (f : F32.LSM) : Bool := condOk f.cond

/-- The constraints of the rows of format F32.BR. -/
def F32.BR.wf (f : F32.BR) : Bool := condOk f.cond

/-- The constraints of the rows of format F32.VOP. -/
def F32.VOP.wf (f : F32.VOP) : Bool := condOk f.cond

/-- The constraints of the rows of format F32.VXFER. -/
def F32.VXFER.wf (f : F32.VXFER) : Bool := condOk f.cond

/-- The constraints of the rows of format F32.VCTL. -/
def F32.VCTL.wf (f : F32.VCTL) : Bool := condOk f.cond

/-- The constraints of the rows of format F32.VLS. -/
def F32.VLS.wf (f : F32.VLS) : Bool := condOk f.cond && vectorIndexOk f.p f.w

/-- The constraints of the rows of format F32.SYS. -/
def F32.SYS.wf (f : F32.SYS) : Bool := condOk f.cond

/-- The constraints of the rows of format C16.IT. -/
def C16.IT.wf (f : C16.IT) : Bool := f.mask != 0

/-- The constraints of the rows of format C16.BC. -/
def C16.BC.wf (f : C16.BC) : Bool := decide (f.cond.toNat < 14)

/-- The constraints of the rows of format W64.ASR. -/
def W64.ASR.wf (f : W64.ASR) : Bool := f.shift != .ror && shiftAmountOk f.sf f.imm6

/-- The constraints of the rows of format W64.LOGR. -/
def W64.LOGR.wf (f : W64.LOGR) : Bool := shiftAmountOk f.sf f.imm6

/-- The constraints of the rows of format W64.MOVW. -/
def W64.MOVW.wf (f : W64.MOVW) : Bool := halfwordOk f.sf f.hw

/-- The constraints of the rows of format W64.LS. -/
def W64.LS.wf (f : W64.LS) : Bool := f.addr.wf

/-- The constraints of the rows of format W64.LSP. -/
def W64.LSP.wf (f : W64.LSP) : Bool := f.idx != 0

/-- Every constraint of an instruction's row holds. -/
def Instr.wf : Instr → Bool
  | .f32And f => f.wf
  | .f32Eor f => f.wf
  | .f32Sub f => f.wf
  | .f32Rsb f => f.wf
  | .f32Add f => f.wf
  | .f32Adc f => f.wf
  | .f32Sbc f => f.wf
  | .f32Rsc f => f.wf
  | .f32Tst f => f.wf
  | .f32Teq f => f.wf
  | .f32Cmp f => f.wf
  | .f32Cmn f => f.wf
  | .f32Orr f => f.wf
  | .f32Mov f => f.wf
  | .f32Bic f => f.wf
  | .f32Mvn f => f.wf
  | .f32MulMul f => f.wf
  | .f32MlaMul f => f.wf
  | .f32UmullMull f => f.wf
  | .f32UmlalMull f => f.wf
  | .f32SmullMull f => f.wf
  | .f32SmlalMull f => f.wf
  | .f32SwpSwp f => f.wf
  | .f32SwpbSwp f => f.wf
  | .f32MrsMisc f => f.wf
  | .f32MsrMisc f => f.wf
  | .f32MsrMsri f => f.wf
  | .f32BxMisc f => f.wf
  | .f32BlxMisc f => f.wf
  | .f32QaddSat f => f.wf
  | .f32QsubSat f => f.wf
  | .f32QdaddSat f => f.wf
  | .f32QdsubSat f => f.wf
  | .f32StrhLshi f => f.wf
  | .f32StrhLshr f => f.wf
  | .f32LdrdLshi f => f.wf
  | .f32LdrdLshr f => f.wf
  | .f32StrdLshi f => f.wf
  | .f32StrdLshr f => f.wf
  | .f32LdrhLshi f => f.wf
  | .f32LdrhLshr f => f.wf
  | .f32LdrsbLshi f => f.wf
  | .f32LdrsbLshr f => f.wf
  | .f32LdrshLshi f => f.wf
  | .f32LdrshLshr f => f.wf
  | .f32StrLsi f => f.wf
  | .f32StrLsr f => f.wf
  | .f32StrtLsi f => f.wf
  | .f32StrtLsr f => f.wf
  | .f32LdrLsi f => f.wf
  | .f32LdrLsr f => f.wf
  | .f32LdrtLsi f => f.wf
  | .f32LdrtLsr f => f.wf
  | .f32StrbLsi f => f.wf
  | .f32StrbLsr f => f.wf
  | .f32StrbtLsi f => f.wf
  | .f32StrbtLsr f => f.wf
  | .f32LdrbLsi f => f.wf
  | .f32LdrbLsr f => f.wf
  | .f32LdrbtLsi f => f.wf
  | .f32LdrbtLsr f => f.wf
  | .f32StmLsm f => f.wf
  | .f32LdmLsm f => f.wf
  | .f32BBr f => f.wf
  | .f32BlBr f => f.wf
  | .f32BlxBlxi _ => true
  | .f32VaddVop f => f.wf
  | .f32VsubVop f => f.wf
  | .f32VqaddVop f => f.wf
  | .f32VqsubVop f => f.wf
  | .f32VshrVop f => f.wf
  | .f32VrshrVop f => f.wf
  | .f32VmullbVop f => f.wf
  | .f32VmulltVop f => f.wf
  | .f32VdotVop f => f.wf
  | .f32VdotaVop f => f.wf
  | .f32VmulhVop f => f.wf
  | .f32VrmulhVop f => f.wf
  | .f32VpackVop f => f.wf
  | .f32VqpackVop f => f.wf
  | .f32VunpkbVop f => f.wf
  | .f32VunpktVop f => f.wf
  | .f32VzipbVop f => f.wf
  | .f32VziptVop f => f.wf
  | .f32VandVop f => f.wf
  | .f32VorrVop f => f.wf
  | .f32VeorVop f => f.wf
  | .f32VceqVop f => f.wf
  | .f32VcgtVop f => f.wf
  | .f32VcgeVop f => f.wf
  | .f32VfceqVop f => f.wf
  | .f32VfcgeVop f => f.wf
  | .f32VfcgtVop f => f.wf
  | .f32VfacgeVop f => f.wf
  | .f32VfacgtVop f => f.wf
  | .f32VfcmpVop f => f.wf
  | .f32VfcmpeVop f => f.wf
  | .f32VmovtvVxfer f => f.wf
  | .f32VmovfvVxfer f => f.wf
  | .f32VmsrVctl f => f.wf
  | .f32VmrsVctl f => f.wf
  | .f32VstrVls f => f.wf
  | .f32VldrVls f => f.wf
  | .f32SyswSys f => f.wf
  | .f32SysrSys f => f.wf
  | .c16LslsShi _ => true
  | .c16LsrsShi _ => true
  | .c16AsrsShi _ => true
  | .c16AddsAs3 _ => true
  | .c16SubsAs3 _ => true
  | .c16AddsAs3i _ => true
  | .c16SubsAs3i _ => true
  | .c16MovsI8 _ => true
  | .c16CmpI8 _ => true
  | .c16AddsI8 _ => true
  | .c16SubsI8 _ => true
  | .c16AndsAlu _ => true
  | .c16EorsAlu _ => true
  | .c16LslsAlu _ => true
  | .c16LsrsAlu _ => true
  | .c16AsrsAlu _ => true
  | .c16AdcsAlu _ => true
  | .c16SbcsAlu _ => true
  | .c16RorsAlu _ => true
  | .c16TstAlu _ => true
  | .c16NegsAlu _ => true
  | .c16CmpAlu _ => true
  | .c16CmnAlu _ => true
  | .c16OrrsAlu _ => true
  | .c16MulsAlu _ => true
  | .c16BicsAlu _ => true
  | .c16MvnsAlu _ => true
  | .c16AddHi _ => true
  | .c16CmpHi _ => true
  | .c16MovHi _ => true
  | .c16BxBx _ => true
  | .c16BlxBx _ => true
  | .c16LdrLit _ => true
  | .c16StrLsr _ => true
  | .c16StrhLsr _ => true
  | .c16StrbLsr _ => true
  | .c16LdrsbLsr _ => true
  | .c16LdrLsr _ => true
  | .c16LdrhLsr _ => true
  | .c16LdrbLsr _ => true
  | .c16LdrshLsr _ => true
  | .c16StrLsi _ => true
  | .c16LdrLsi _ => true
  | .c16StrbLsi _ => true
  | .c16LdrbLsi _ => true
  | .c16StrhLsi _ => true
  | .c16LdrhLsi _ => true
  | .c16StrSpr _ => true
  | .c16LdrSpr _ => true
  | .c16AdrAdr _ => true
  | .c16AddAdr _ => true
  | .c16AddSpa _ => true
  | .c16SubSpa _ => true
  | .c16PushPp _ => true
  | .c16PopPp _ => true
  | .c16NopHint => true
  | .c16ItIt f => f.wf
  | .c16StmiaLsm _ => true
  | .c16LdmiaLsm _ => true
  | .c16BBc f => f.wf
  | .c16BB _ => true
  | .c16BlxBl2 _ => true
  | .c16BlBl1 _ => true
  | .c16BlBl2 _ => true
  | .w64AddAsi _ => true
  | .w64AddsAsi _ => true
  | .w64SubAsi _ => true
  | .w64SubsAsi _ => true
  | .w64AddAsr f => f.wf
  | .w64AddsAsr f => f.wf
  | .w64SubAsr f => f.wf
  | .w64SubsAsr f => f.wf
  | .w64AndLogr f => f.wf
  | .w64BicLogr f => f.wf
  | .w64OrrLogr f => f.wf
  | .w64OrnLogr f => f.wf
  | .w64EorLogr f => f.wf
  | .w64EonLogr f => f.wf
  | .w64AndsLogr f => f.wf
  | .w64BicsLogr f => f.wf
  | .w64MovnMovw f => f.wf
  | .w64MovzMovw f => f.wf
  | .w64MovkMovw f => f.wf
  | .w64AdrAdr _ => true
  | .w64AdrpAdr _ => true
  | .w64BBi _ => true
  | .w64BlBi _ => true
  | .w64BcondBc _ => true
  | .w64CbzCb _ => true
  | .w64CbnzCb _ => true
  | .w64TbzTb _ => true
  | .w64TbnzTb _ => true
  | .w64BrBreg _ => true
  | .w64BlrBreg _ => true
  | .w64RetBreg _ => true
  | .w64CselCsel _ => true
  | .w64CsincCsel _ => true
  | .w64CsinvCsel _ => true
  | .w64CsnegCsel _ => true
  | .w64UdivDp2 _ => true
  | .w64SdivDp2 _ => true
  | .w64LslvDp2 _ => true
  | .w64LsrvDp2 _ => true
  | .w64AsrvDp2 _ => true
  | .w64RorvDp2 _ => true
  | .w64MaddDp3 _ => true
  | .w64MsubDp3 _ => true
  | .w64SmaddlDp3 _ => true
  | .w64SmsublDp3 _ => true
  | .w64SmulhDp3 _ => true
  | .w64UmaddlDp3 _ => true
  | .w64UmsublDp3 _ => true
  | .w64UmulhDp3 _ => true
  | .w64Strb f => f.wf
  | .w64Ldrb f => f.wf
  | .w64Ldrsb f => f.wf
  | .w64Ldrsbw f => f.wf
  | .w64Strh f => f.wf
  | .w64Ldrh f => f.wf
  | .w64Ldrsh f => f.wf
  | .w64Ldrshw f => f.wf
  | .w64Strw f => f.wf
  | .w64Ldrw f => f.wf
  | .w64Ldrsw f => f.wf
  | .w64Strx f => f.wf
  | .w64Ldrx f => f.wf
  | .w64LdrwLit _ => true
  | .w64LdrxLit _ => true
  | .w64LdrswLit _ => true
  | .w64StpLsp f => f.wf
  | .w64LdpLsp f => f.wf
  | .w64NopSys => true
  | .w64MrsSys _ => true
  | .w64MsrSys _ => true

end Sys2Proof
end

