-- ==== Sys2Proof/Decode.lean ====
section
/-! DEFINITION. The three decoders of 30_encoding.md (R101, R104, R116, R123), total on every word, then the encoder
(the words of a well-formed instruction, from the same tables), then the words written out from the encodings of
the spec with the instruction each decodes to. Fields are taken by exact division, so that the kernel computes
them. -/

namespace Sys2Proof

/-! ### Fields of a word -/

/-- `w[lo + n - 1 : lo]` as a number (00_scope.md R12). -/
def fld (w lo n : Nat) : Nat := w / 2 ^ lo % 2 ^ n

/-- A 3-bit register field. -/
def reg3 (w lo : Nat) : Fin 8 := ⟨w / 2 ^ lo % 8, Nat.mod_lt _ (by decide)⟩

/-- A 4-bit register field. -/
def reg4 (w lo : Nat) : Fin 16 := ⟨w / 2 ^ lo % 16, Nat.mod_lt _ (by decide)⟩

/-- A 5-bit register field. -/
def reg5 (w lo : Nat) : Fin 32 := ⟨w / 2 ^ lo % 32, Nat.mod_lt _ (by decide)⟩

/-- One bit. -/
def bitAt (w lo : Nat) : Bool := decide (w / 2 ^ lo % 2 = 1)

/-- An `n`-bit immediate or selector. -/
def immAt (n w lo : Nat) : BitVec n := BitVec.ofNat n (w / 2 ^ lo)

/-- The 2-bit shift type: `00` LSL, `01` LSR, `10` ASR, `11` ROR (R106, R124). -/
def ShiftKind.ofCode : Nat → ShiftKind
  | 0 => .lsl
  | 1 => .lsr
  | 2 => .asr
  | _ => .ror

def ShiftKind.code : ShiftKind → Nat
  | .lsl => 0
  | .lsr => 1
  | .asr => 2
  | .ror => 3

def shiftAt (w lo : Nat) : ShiftKind := ShiftKind.ofCode (w / 2 ^ lo % 4)

/-! ### Operands of each format -/

/-- The operand form of an F32 data-processing word, by `I[25]` and `I[4]` (R104 to R107). -/
def F32.Op2.ofWord (w : Nat) : F32.Op2 :=
  if fld w 25 1 = 1 then .imm (immAt 4 w 8) (immAt 8 w 0)
  else if fld w 4 1 = 0 then .reg (immAt 5 w 7) (shiftAt w 5) (reg4 w 0)
  else .regShift (reg4 w 8) (shiftAt w 5) (reg4 w 0)

/-- The bits of the operand form (R105 to R107). -/
def F32.Op2.toWord : F32.Op2 → Nat
  | .imm rot imm8 => 2 ^ 25 + rot.toNat * 2 ^ 8 + imm8.toNat
  | .reg shamt stype rm => shamt.toNat * 2 ^ 7 + stype.code * 2 ^ 5 + rm.val
  | .regShift rs stype rm => rs.val * 2 ^ 8 + stype.code * 2 ^ 5 + 2 ^ 4 + rm.val

/-- The address form of a W64 load/store word, by `I[24]` and `I[21]` (R127). -/
def W64.Addr.ofWord (w : Nat) : W64.Addr :=
  if fld w 24 1 = 1 then .unsigned (immAt 12 w 10)
  else if fld w 21 1 = 0 then .signed (immAt 9 w 12) (immAt 2 w 10)
  else .reg (reg5 w 16) (immAt 3 w 13) (bitAt w 12)

/-- The bits of the address form (R127). -/
def W64.Addr.toWord : W64.Addr → Nat
  | .unsigned imm12 => 2 ^ 24 + imm12.toNat * 2 ^ 10
  | .signed imm9 idx => imm9.toNat * 2 ^ 12 + idx.toNat * 2 ^ 10
  | .reg rm option s => 2 ^ 21 + rm.val * 2 ^ 16 + option.toNat * 2 ^ 13 + s.toNat * 2 ^ 12 + 2 ^ 11

/-- The operands of F32.DP (R105 to R107). -/
def F32.DP.ofWord (w : Nat) : F32.DP where
  cond := immAt 4 w 28
  s := bitAt w 20
  rn := reg4 w 16
  rd := reg4 w 12
  op2 := F32.Op2.ofWord w

/-- The field bits of F32.DP (R105 to R107). -/
def F32.DP.toWord (f : F32.DP) : Nat :=
  f.cond.toNat * 2 ^ 28 + f.s.toNat * 2 ^ 20 + f.rn.val * 2 ^ 16 + f.rd.val * 2 ^ 12 + f.op2.toWord

/-- The operands of F32.DPC (R105 to R107). -/
def F32.DPC.ofWord (w : Nat) : F32.DPC where
  cond := immAt 4 w 28
  rn := reg4 w 16
  rd := reg4 w 12
  op2 := F32.Op2.ofWord w

/-- The field bits of F32.DPC (R105 to R107). -/
def F32.DPC.toWord (f : F32.DPC) : Nat :=
  f.cond.toNat * 2 ^ 28 + f.rn.val * 2 ^ 16 + f.rd.val * 2 ^ 12 + f.op2.toWord

/-- The operands of F32.MUL (R108). -/
def F32.MUL.ofWord (w : Nat) : F32.MUL where
  cond := immAt 4 w 28
  s := bitAt w 20
  rd := reg4 w 16
  rs := reg4 w 8
  rm := reg4 w 0

/-- The field bits of F32.MUL (R108). -/
def F32.MUL.toWord (f : F32.MUL) : Nat :=
  f.cond.toNat * 2 ^ 28 + f.s.toNat * 2 ^ 20 + f.rd.val * 2 ^ 16 + f.rs.val * 2 ^ 8 + f.rm.val * 2 ^ 0

/-- The operands of F32.MLA (R108). -/
def F32.MLA.ofWord (w : Nat) : F32.MLA where
  cond := immAt 4 w 28
  s := bitAt w 20
  rd := reg4 w 16
  rn := reg4 w 12
  rs := reg4 w 8
  rm := reg4 w 0

/-- The field bits of F32.MLA (R108). -/
def F32.MLA.toWord (f : F32.MLA) : Nat :=
  f.cond.toNat * 2 ^ 28 + f.s.toNat * 2 ^ 20 + f.rd.val * 2 ^ 16 + f.rn.val * 2 ^ 12 + f.rs.val * 2 ^ 8 + f.rm.val * 2 ^ 0

/-- The operands of F32.MULL (R108). -/
def F32.MULL.ofWord (w : Nat) : F32.MULL where
  cond := immAt 4 w 28
  s := bitAt w 20
  rdHi := reg4 w 16
  rdLo := reg4 w 12
  rs := reg4 w 8
  rm := reg4 w 0

/-- The field bits of F32.MULL (R108). -/
def F32.MULL.toWord (f : F32.MULL) : Nat :=
  f.cond.toNat * 2 ^ 28 + f.s.toNat * 2 ^ 20 + f.rdHi.val * 2 ^ 16 + f.rdLo.val * 2 ^ 12 + f.rs.val * 2 ^ 8 + f.rm.val * 2 ^ 0

/-- The operands of F32.SWP (R109). -/
def F32.SWP.ofWord (w : Nat) : F32.SWP where
  cond := immAt 4 w 28
  rn := reg4 w 16
  rd := reg4 w 12
  rm := reg4 w 0

/-- The field bits of F32.SWP (R109). -/
def F32.SWP.toWord (f : F32.SWP) : Nat :=
  f.cond.toNat * 2 ^ 28 + f.rn.val * 2 ^ 16 + f.rd.val * 2 ^ 12 + f.rm.val * 2 ^ 0

/-- The operands of F32.SAT (R109). -/
def F32.SAT.ofWord (w : Nat) : F32.SAT where
  cond := immAt 4 w 28
  rn := reg4 w 16
  rd := reg4 w 12
  rm := reg4 w 0

/-- The field bits of F32.SAT (R109). -/
def F32.SAT.toWord (f : F32.SAT) : Nat :=
  f.cond.toNat * 2 ^ 28 + f.rn.val * 2 ^ 16 + f.rd.val * 2 ^ 12 + f.rm.val * 2 ^ 0

/-- The operands of F32.MRS (R109). -/
def F32.MRS.ofWord (w : Nat) : F32.MRS where
  cond := immAt 4 w 28
  rd := reg4 w 12

/-- The field bits of F32.MRS (R109). -/
def F32.MRS.toWord (f : F32.MRS) : Nat :=
  f.cond.toNat * 2 ^ 28 + f.rd.val * 2 ^ 12

/-- The operands of F32.MSR (R109). -/
def F32.MSR.ofWord (w : Nat) : F32.MSR where
  cond := immAt 4 w 28
  fmask := immAt 4 w 16
  rm := reg4 w 0

/-- The field bits of F32.MSR (R109). -/
def F32.MSR.toWord (f : F32.MSR) : Nat :=
  f.cond.toNat * 2 ^ 28 + f.fmask.toNat * 2 ^ 16 + f.rm.val * 2 ^ 0

/-- The operands of F32.MSRI (R109). -/
def F32.MSRI.ofWord (w : Nat) : F32.MSRI where
  cond := immAt 4 w 28
  fmask := immAt 4 w 16
  rot := immAt 4 w 8
  imm8 := immAt 8 w 0

/-- The field bits of F32.MSRI (R109). -/
def F32.MSRI.toWord (f : F32.MSRI) : Nat :=
  f.cond.toNat * 2 ^ 28 + f.fmask.toNat * 2 ^ 16 + f.rot.toNat * 2 ^ 8 + f.imm8.toNat * 2 ^ 0

/-- The operands of F32.BXR (R109). -/
def F32.BXR.ofWord (w : Nat) : F32.BXR where
  cond := immAt 4 w 28
  rm := reg4 w 0

/-- The field bits of F32.BXR (R109). -/
def F32.BXR.toWord (f : F32.BXR) : Nat :=
  f.cond.toNat * 2 ^ 28 + f.rm.val * 2 ^ 0

/-- The operands of F32.LSHI (R110). -/
def F32.LSHI.ofWord (w : Nat) : F32.LSHI where
  cond := immAt 4 w 28
  p := bitAt w 24
  u := bitAt w 23
  w := bitAt w 21
  rn := reg4 w 16
  rd := reg4 w 12
  imm8 := BitVec.ofNat 8 (fld w 8 4 * 16 + fld w 0 4)

/-- The field bits of F32.LSHI (R110). -/
def F32.LSHI.toWord (f : F32.LSHI) : Nat :=
  f.cond.toNat * 2 ^ 28 + f.p.toNat * 2 ^ 24 + f.u.toNat * 2 ^ 23 + f.w.toNat * 2 ^ 21 + f.rn.val * 2 ^ 16 + f.rd.val * 2 ^ 12 + f.imm8.toNat / 16 * 2 ^ 8 + f.imm8.toNat % 16

/-- The operands of F32.LSHR (R110). -/
def F32.LSHR.ofWord (w : Nat) : F32.LSHR where
  cond := immAt 4 w 28
  p := bitAt w 24
  u := bitAt w 23
  w := bitAt w 21
  rn := reg4 w 16
  rd := reg4 w 12
  rm := reg4 w 0

/-- The field bits of F32.LSHR (R110). -/
def F32.LSHR.toWord (f : F32.LSHR) : Nat :=
  f.cond.toNat * 2 ^ 28 + f.p.toNat * 2 ^ 24 + f.u.toNat * 2 ^ 23 + f.w.toNat * 2 ^ 21 + f.rn.val * 2 ^ 16 + f.rd.val * 2 ^ 12 + f.rm.val * 2 ^ 0

/-- The operands of F32.LSI (R111). -/
def F32.LSI.ofWord (w : Nat) : F32.LSI where
  cond := immAt 4 w 28
  p := bitAt w 24
  u := bitAt w 23
  w := bitAt w 21
  rn := reg4 w 16
  rd := reg4 w 12
  imm12 := immAt 12 w 0

/-- The field bits of F32.LSI (R111). -/
def F32.LSI.toWord (f : F32.LSI) : Nat :=
  f.cond.toNat * 2 ^ 28 + f.p.toNat * 2 ^ 24 + f.u.toNat * 2 ^ 23 + f.w.toNat * 2 ^ 21 + f.rn.val * 2 ^ 16 + f.rd.val * 2 ^ 12 + f.imm12.toNat * 2 ^ 0

/-- The operands of F32.LSR (R111). -/
def F32.LSR.ofWord (w : Nat) : F32.LSR where
  cond := immAt 4 w 28
  p := bitAt w 24
  u := bitAt w 23
  w := bitAt w 21
  rn := reg4 w 16
  rd := reg4 w 12
  shamt := immAt 5 w 7
  stype := shiftAt w 5
  rm := reg4 w 0

/-- The field bits of F32.LSR (R111). -/
def F32.LSR.toWord (f : F32.LSR) : Nat :=
  f.cond.toNat * 2 ^ 28 + f.p.toNat * 2 ^ 24 + f.u.toNat * 2 ^ 23 + f.w.toNat * 2 ^ 21 + f.rn.val * 2 ^ 16 + f.rd.val * 2 ^ 12 + f.shamt.toNat * 2 ^ 7 + f.stype.code * 2 ^ 5 + f.rm.val * 2 ^ 0

/-- The operands of F32.LSIT (R111). -/
def F32.LSIT.ofWord (w : Nat) : F32.LSIT where
  cond := immAt 4 w 28
  u := bitAt w 23
  rn := reg4 w 16
  rd := reg4 w 12
  imm12 := immAt 12 w 0

/-- The field bits of F32.LSIT (R111). -/
def F32.LSIT.toWord (f : F32.LSIT) : Nat :=
  f.cond.toNat * 2 ^ 28 + f.u.toNat * 2 ^ 23 + f.rn.val * 2 ^ 16 + f.rd.val * 2 ^ 12 + f.imm12.toNat * 2 ^ 0

/-- The operands of F32.LSRT (R111). -/
def F32.LSRT.ofWord (w : Nat) : F32.LSRT where
  cond := immAt 4 w 28
  u := bitAt w 23
  rn := reg4 w 16
  rd := reg4 w 12
  shamt := immAt 5 w 7
  stype := shiftAt w 5
  rm := reg4 w 0

/-- The field bits of F32.LSRT (R111). -/
def F32.LSRT.toWord (f : F32.LSRT) : Nat :=
  f.cond.toNat * 2 ^ 28 + f.u.toNat * 2 ^ 23 + f.rn.val * 2 ^ 16 + f.rd.val * 2 ^ 12 + f.shamt.toNat * 2 ^ 7 + f.stype.code * 2 ^ 5 + f.rm.val * 2 ^ 0

/-- The operands of F32.LSM (R112). -/
def F32.LSM.ofWord (w : Nat) : F32.LSM where
  cond := immAt 4 w 28
  p := bitAt w 24
  u := bitAt w 23
  s := bitAt w 22
  w := bitAt w 21
  rn := reg4 w 16
  reglist := immAt 16 w 0

/-- The field bits of F32.LSM (R112). -/
def F32.LSM.toWord (f : F32.LSM) : Nat :=
  f.cond.toNat * 2 ^ 28 + f.p.toNat * 2 ^ 24 + f.u.toNat * 2 ^ 23 + f.s.toNat * 2 ^ 22 + f.w.toNat * 2 ^ 21 + f.rn.val * 2 ^ 16 + f.reglist.toNat * 2 ^ 0

/-- The operands of F32.BR (R113). -/
def F32.BR.ofWord (w : Nat) : F32.BR where
  cond := immAt 4 w 28
  imm24 := immAt 24 w 0

/-- The field bits of F32.BR (R113). -/
def F32.BR.toWord (f : F32.BR) : Nat :=
  f.cond.toNat * 2 ^ 28 + f.imm24.toNat * 2 ^ 0

/-- The operands of F32.BLXI (R113). -/
def F32.BLXI.ofWord (w : Nat) : F32.BLXI where
  h := bitAt w 24
  imm24 := immAt 24 w 0

/-- The field bits of F32.BLXI (R113). -/
def F32.BLXI.toWord (f : F32.BLXI) : Nat :=
  f.h.toNat * 2 ^ 24 + f.imm24.toNat * 2 ^ 0

/-- The operands of F32.VOP (R114). -/
def F32.VOP.ofWord (w : Nat) : F32.VOP where
  cond := immAt 4 w 28
  vn := reg4 w 16
  vd := reg4 w 12
  u := bitAt w 7
  sz := immAt 2 w 5
  vm := reg4 w 0

/-- The field bits of F32.VOP (R114). -/
def F32.VOP.toWord (f : F32.VOP) : Nat :=
  f.cond.toNat * 2 ^ 28 + f.vn.val * 2 ^ 16 + f.vd.val * 2 ^ 12 + f.u.toNat * 2 ^ 7 + f.sz.toNat * 2 ^ 5 + f.vm.val * 2 ^ 0

/-- The operands of F32.VXFER (R114). -/
def F32.VXFER.ofWord (w : Nat) : F32.VXFER where
  cond := immAt 4 w 28
  rt2 := reg4 w 16
  rt := reg4 w 12
  vm := reg4 w 0

/-- The field bits of F32.VXFER (R114). -/
def F32.VXFER.toWord (f : F32.VXFER) : Nat :=
  f.cond.toNat * 2 ^ 28 + f.rt2.val * 2 ^ 16 + f.rt.val * 2 ^ 12 + f.vm.val * 2 ^ 0

/-- The operands of F32.VCTL (R114). -/
def F32.VCTL.ofWord (w : Nat) : F32.VCTL where
  cond := immAt 4 w 28
  vcn := immAt 4 w 16
  rt := reg4 w 12

/-- The field bits of F32.VCTL (R114). -/
def F32.VCTL.toWord (f : F32.VCTL) : Nat :=
  f.cond.toNat * 2 ^ 28 + f.vcn.toNat * 2 ^ 16 + f.rt.val * 2 ^ 12

/-- The operands of F32.VLS (R114). -/
def F32.VLS.ofWord (w : Nat) : F32.VLS where
  cond := immAt 4 w 28
  p := bitAt w 24
  u := bitAt w 23
  w := bitAt w 21
  rn := reg4 w 16
  vd := reg4 w 12
  imm8 := immAt 8 w 0

/-- The field bits of F32.VLS (R114). -/
def F32.VLS.toWord (f : F32.VLS) : Nat :=
  f.cond.toNat * 2 ^ 28 + f.p.toNat * 2 ^ 24 + f.u.toNat * 2 ^ 23 + f.w.toNat * 2 ^ 21 + f.rn.val * 2 ^ 16 + f.vd.val * 2 ^ 12 + f.imm8.toNat * 2 ^ 0

/-- The operands of F32.SYS (R114). -/
def F32.SYS.ofWord (w : Nat) : F32.SYS where
  cond := immAt 4 w 28
  opc1 := immAt 3 w 21
  crn := immAt 4 w 16
  rt := reg4 w 12
  opc2 := immAt 3 w 5
  crm := immAt 4 w 0

/-- The field bits of F32.SYS (R114). -/
def F32.SYS.toWord (f : F32.SYS) : Nat :=
  f.cond.toNat * 2 ^ 28 + f.opc1.toNat * 2 ^ 21 + f.crn.toNat * 2 ^ 16 + f.rt.val * 2 ^ 12 + f.opc2.toNat * 2 ^ 5 + f.crm.toNat * 2 ^ 0

/-- The operands of C16.SHI (R117). -/
def C16.SHI.ofWord (w : Nat) : C16.SHI where
  imm5 := immAt 5 w 6
  rm := reg3 w 3
  rd := reg3 w 0

/-- The field bits of C16.SHI (R117). -/
def C16.SHI.toWord (f : C16.SHI) : Nat :=
  f.imm5.toNat * 2 ^ 6 + f.rm.val * 2 ^ 3 + f.rd.val * 2 ^ 0

/-- The operands of C16.AS3 (R117). -/
def C16.AS3.ofWord (w : Nat) : C16.AS3 where
  rm := reg3 w 6
  rn := reg3 w 3
  rd := reg3 w 0

/-- The field bits of C16.AS3 (R117). -/
def C16.AS3.toWord (f : C16.AS3) : Nat :=
  f.rm.val * 2 ^ 6 + f.rn.val * 2 ^ 3 + f.rd.val * 2 ^ 0

/-- The operands of C16.AS3I (R117). -/
def C16.AS3I.ofWord (w : Nat) : C16.AS3I where
  imm3 := immAt 3 w 6
  rn := reg3 w 3
  rd := reg3 w 0

/-- The field bits of C16.AS3I (R117). -/
def C16.AS3I.toWord (f : C16.AS3I) : Nat :=
  f.imm3.toNat * 2 ^ 6 + f.rn.val * 2 ^ 3 + f.rd.val * 2 ^ 0

/-- The operands of C16.I8 (R117). -/
def C16.I8.ofWord (w : Nat) : C16.I8 where
  rd := reg3 w 8
  imm8 := immAt 8 w 0

/-- The field bits of C16.I8 (R117). -/
def C16.I8.toWord (f : C16.I8) : Nat :=
  f.rd.val * 2 ^ 8 + f.imm8.toNat * 2 ^ 0

/-- The operands of C16.ALU (R118). -/
def C16.ALU.ofWord (w : Nat) : C16.ALU where
  rm := reg3 w 3
  rdn := reg3 w 0

/-- The field bits of C16.ALU (R118). -/
def C16.ALU.toWord (f : C16.ALU) : Nat :=
  f.rm.val * 2 ^ 3 + f.rdn.val * 2 ^ 0

/-- The operands of C16.HI (R118). -/
def C16.HI.ofWord (w : Nat) : C16.HI where
  rm := reg4 w 3
  d := ⟨fld w 7 1 * 8 + fld w 0 3, by simp only [fld]; omega⟩

/-- The field bits of C16.HI (R118). -/
def C16.HI.toWord (f : C16.HI) : Nat :=
  f.rm.val * 2 ^ 3 + f.d.val / 8 * 2 ^ 7 + f.d.val % 8

/-- The operands of C16.BXR (R118). -/
def C16.BXR.ofWord (w : Nat) : C16.BXR where
  rm := reg4 w 3

/-- The field bits of C16.BXR (R118). -/
def C16.BXR.toWord (f : C16.BXR) : Nat :=
  f.rm.val * 2 ^ 3

/-- The operands of C16.LIT (R119). -/
def C16.LIT.ofWord (w : Nat) : C16.LIT where
  rd := reg3 w 8
  imm8 := immAt 8 w 0

/-- The field bits of C16.LIT (R119). -/
def C16.LIT.toWord (f : C16.LIT) : Nat :=
  f.rd.val * 2 ^ 8 + f.imm8.toNat * 2 ^ 0

/-- The operands of C16.LSR (R119). -/
def C16.LSR.ofWord (w : Nat) : C16.LSR where
  rm := reg3 w 6
  rn := reg3 w 3
  rd := reg3 w 0

/-- The field bits of C16.LSR (R119). -/
def C16.LSR.toWord (f : C16.LSR) : Nat :=
  f.rm.val * 2 ^ 6 + f.rn.val * 2 ^ 3 + f.rd.val * 2 ^ 0

/-- The operands of C16.LSI (R119). -/
def C16.LSI.ofWord (w : Nat) : C16.LSI where
  imm5 := immAt 5 w 6
  rn := reg3 w 3
  rd := reg3 w 0

/-- The field bits of C16.LSI (R119). -/
def C16.LSI.toWord (f : C16.LSI) : Nat :=
  f.imm5.toNat * 2 ^ 6 + f.rn.val * 2 ^ 3 + f.rd.val * 2 ^ 0

/-- The operands of C16.SPR (R119). -/
def C16.SPR.ofWord (w : Nat) : C16.SPR where
  rd := reg3 w 8
  imm8 := immAt 8 w 0

/-- The field bits of C16.SPR (R119). -/
def C16.SPR.toWord (f : C16.SPR) : Nat :=
  f.rd.val * 2 ^ 8 + f.imm8.toNat * 2 ^ 0

/-- The operands of C16.ADR (R119). -/
def C16.ADR.ofWord (w : Nat) : C16.ADR where
  rd := reg3 w 8
  imm8 := immAt 8 w 0

/-- The field bits of C16.ADR (R119). -/
def C16.ADR.toWord (f : C16.ADR) : Nat :=
  f.rd.val * 2 ^ 8 + f.imm8.toNat * 2 ^ 0

/-- The operands of C16.SPA (R119). -/
def C16.SPA.ofWord (w : Nat) : C16.SPA where
  imm7 := immAt 7 w 0

/-- The field bits of C16.SPA (R119). -/
def C16.SPA.toWord (f : C16.SPA) : Nat :=
  f.imm7.toNat * 2 ^ 0

/-- The operands of C16.PP (R120). -/
def C16.PP.ofWord (w : Nat) : C16.PP where
  r := bitAt w 8
  reglist := immAt 8 w 0

/-- The field bits of C16.PP (R120). -/
def C16.PP.toWord (f : C16.PP) : Nat :=
  f.r.toNat * 2 ^ 8 + f.reglist.toNat * 2 ^ 0

/-- The operands of C16.IT (R120). -/
def C16.IT.ofWord (w : Nat) : C16.IT where
  firstcond := immAt 4 w 4
  mask := immAt 4 w 0

/-- The field bits of C16.IT (R120). -/
def C16.IT.toWord (f : C16.IT) : Nat :=
  f.firstcond.toNat * 2 ^ 4 + f.mask.toNat * 2 ^ 0

/-- The operands of C16.LSM (R120). -/
def C16.LSM.ofWord (w : Nat) : C16.LSM where
  rn := reg3 w 8
  reglist := immAt 8 w 0

/-- The field bits of C16.LSM (R120). -/
def C16.LSM.toWord (f : C16.LSM) : Nat :=
  f.rn.val * 2 ^ 8 + f.reglist.toNat * 2 ^ 0

/-- The operands of C16.BC (R121). -/
def C16.BC.ofWord (w : Nat) : C16.BC where
  cond := immAt 4 w 8
  imm8 := immAt 8 w 0

/-- The field bits of C16.BC (R121). -/
def C16.BC.toWord (f : C16.BC) : Nat :=
  f.cond.toNat * 2 ^ 8 + f.imm8.toNat * 2 ^ 0

/-- The operands of C16.B (R121). -/
def C16.B.ofWord (w : Nat) : C16.B where
  imm11 := immAt 11 w 0

/-- The field bits of C16.B (R121). -/
def C16.B.toWord (f : C16.B) : Nat :=
  f.imm11.toNat * 2 ^ 0

/-- The operands of C16.BL1 (R121). -/
def C16.BL1.ofWord (w : Nat) : C16.BL1 where
  imm11 := immAt 11 w 0

/-- The field bits of C16.BL1 (R121). -/
def C16.BL1.toWord (f : C16.BL1) : Nat :=
  f.imm11.toNat * 2 ^ 0

/-- The operands of C16.BL2 (R121). -/
def C16.BL2.ofWord (w : Nat) : C16.BL2 where
  imm11 := immAt 11 w 0

/-- The field bits of C16.BL2 (R121). -/
def C16.BL2.toWord (f : C16.BL2) : Nat :=
  f.imm11.toNat * 2 ^ 0

/-- The operands of C16.BL2X (R121). -/
def C16.BL2X.ofWord (w : Nat) : C16.BL2X where
  imm10 := immAt 10 w 1

/-- The field bits of C16.BL2X (R121). -/
def C16.BL2X.toWord (f : C16.BL2X) : Nat :=
  f.imm10.toNat * 2 ^ 1

/-- The operands of W64.ASI (R124). -/
def W64.ASI.ofWord (w : Nat) : W64.ASI where
  sf := bitAt w 31
  sh := bitAt w 22
  imm12 := immAt 12 w 10
  rn := reg5 w 5
  rd := reg5 w 0

/-- The field bits of W64.ASI (R124). -/
def W64.ASI.toWord (f : W64.ASI) : Nat :=
  f.sf.toNat * 2 ^ 31 + f.sh.toNat * 2 ^ 22 + f.imm12.toNat * 2 ^ 10 + f.rn.val * 2 ^ 5 + f.rd.val * 2 ^ 0

/-- The operands of W64.ASR (R124). -/
def W64.ASR.ofWord (w : Nat) : W64.ASR where
  sf := bitAt w 31
  shift := shiftAt w 22
  rm := reg5 w 16
  imm6 := immAt 6 w 10
  rn := reg5 w 5
  rd := reg5 w 0

/-- The field bits of W64.ASR (R124). -/
def W64.ASR.toWord (f : W64.ASR) : Nat :=
  f.sf.toNat * 2 ^ 31 + f.shift.code * 2 ^ 22 + f.rm.val * 2 ^ 16 + f.imm6.toNat * 2 ^ 10 + f.rn.val * 2 ^ 5 + f.rd.val * 2 ^ 0

/-- The operands of W64.LOGR (R124). -/
def W64.LOGR.ofWord (w : Nat) : W64.LOGR where
  sf := bitAt w 31
  shift := shiftAt w 22
  rm := reg5 w 16
  imm6 := immAt 6 w 10
  rn := reg5 w 5
  rd := reg5 w 0

/-- The field bits of W64.LOGR (R124). -/
def W64.LOGR.toWord (f : W64.LOGR) : Nat :=
  f.sf.toNat * 2 ^ 31 + f.shift.code * 2 ^ 22 + f.rm.val * 2 ^ 16 + f.imm6.toNat * 2 ^ 10 + f.rn.val * 2 ^ 5 + f.rd.val * 2 ^ 0

/-- The operands of W64.MOVW (R124). -/
def W64.MOVW.ofWord (w : Nat) : W64.MOVW where
  sf := bitAt w 31
  hw := immAt 2 w 21
  imm16 := immAt 16 w 5
  rd := reg5 w 0

/-- The field bits of W64.MOVW (R124). -/
def W64.MOVW.toWord (f : W64.MOVW) : Nat :=
  f.sf.toNat * 2 ^ 31 + f.hw.toNat * 2 ^ 21 + f.imm16.toNat * 2 ^ 5 + f.rd.val * 2 ^ 0

/-- The operands of W64.ADR (R124). -/
def W64.ADR.ofWord (w : Nat) : W64.ADR where
  imm21 := BitVec.ofNat 21 (fld w 5 19 * 4 + fld w 29 2)
  rd := reg5 w 0

/-- The field bits of W64.ADR (R124). -/
def W64.ADR.toWord (f : W64.ADR) : Nat :=
  f.imm21.toNat % 4 * 2 ^ 29 + f.imm21.toNat / 4 * 2 ^ 5 + f.rd.val * 2 ^ 0

/-- The operands of W64.BI (R125). -/
def W64.BI.ofWord (w : Nat) : W64.BI where
  imm26 := immAt 26 w 0

/-- The field bits of W64.BI (R125). -/
def W64.BI.toWord (f : W64.BI) : Nat :=
  f.imm26.toNat * 2 ^ 0

/-- The operands of W64.BC (R125). -/
def W64.BC.ofWord (w : Nat) : W64.BC where
  imm19 := immAt 19 w 5
  cond := immAt 4 w 0

/-- The field bits of W64.BC (R125). -/
def W64.BC.toWord (f : W64.BC) : Nat :=
  f.imm19.toNat * 2 ^ 5 + f.cond.toNat * 2 ^ 0

/-- The operands of W64.CB (R125). -/
def W64.CB.ofWord (w : Nat) : W64.CB where
  sf := bitAt w 31
  imm19 := immAt 19 w 5
  rt := reg5 w 0

/-- The field bits of W64.CB (R125). -/
def W64.CB.toWord (f : W64.CB) : Nat :=
  f.sf.toNat * 2 ^ 31 + f.imm19.toNat * 2 ^ 5 + f.rt.val * 2 ^ 0

/-- The operands of W64.TB (R125). -/
def W64.TB.ofWord (w : Nat) : W64.TB where
  bit := BitVec.ofNat 6 (fld w 31 1 * 32 + fld w 19 5)
  imm14 := immAt 14 w 5
  rt := reg5 w 0

/-- The field bits of W64.TB (R125). -/
def W64.TB.toWord (f : W64.TB) : Nat :=
  f.bit.toNat / 32 * 2 ^ 31 + f.bit.toNat % 32 * 2 ^ 19 + f.imm14.toNat * 2 ^ 5 + f.rt.val * 2 ^ 0

/-- The operands of W64.BREG (R125). -/
def W64.BREG.ofWord (w : Nat) : W64.BREG where
  rn := reg5 w 5

/-- The field bits of W64.BREG (R125). -/
def W64.BREG.toWord (f : W64.BREG) : Nat :=
  f.rn.val * 2 ^ 5

/-- The operands of W64.CSEL (R126). -/
def W64.CSEL.ofWord (w : Nat) : W64.CSEL where
  sf := bitAt w 31
  rm := reg5 w 16
  cond := immAt 4 w 12
  rn := reg5 w 5
  rd := reg5 w 0

/-- The field bits of W64.CSEL (R126). -/
def W64.CSEL.toWord (f : W64.CSEL) : Nat :=
  f.sf.toNat * 2 ^ 31 + f.rm.val * 2 ^ 16 + f.cond.toNat * 2 ^ 12 + f.rn.val * 2 ^ 5 + f.rd.val * 2 ^ 0

/-- The operands of W64.DP2 (R126). -/
def W64.DP2.ofWord (w : Nat) : W64.DP2 where
  sf := bitAt w 31
  rm := reg5 w 16
  rn := reg5 w 5
  rd := reg5 w 0

/-- The field bits of W64.DP2 (R126). -/
def W64.DP2.toWord (f : W64.DP2) : Nat :=
  f.sf.toNat * 2 ^ 31 + f.rm.val * 2 ^ 16 + f.rn.val * 2 ^ 5 + f.rd.val * 2 ^ 0

/-- The operands of W64.DP3 (R126). -/
def W64.DP3.ofWord (w : Nat) : W64.DP3 where
  sf := bitAt w 31
  rm := reg5 w 16
  ra := reg5 w 10
  rn := reg5 w 5
  rd := reg5 w 0

/-- The field bits of W64.DP3 (R126). -/
def W64.DP3.toWord (f : W64.DP3) : Nat :=
  f.sf.toNat * 2 ^ 31 + f.rm.val * 2 ^ 16 + f.ra.val * 2 ^ 10 + f.rn.val * 2 ^ 5 + f.rd.val * 2 ^ 0

/-- The operands of W64.DP3L (R126). -/
def W64.DP3L.ofWord (w : Nat) : W64.DP3L where
  rm := reg5 w 16
  ra := reg5 w 10
  rn := reg5 w 5
  rd := reg5 w 0

/-- The field bits of W64.DP3L (R126). -/
def W64.DP3L.toWord (f : W64.DP3L) : Nat :=
  f.rm.val * 2 ^ 16 + f.ra.val * 2 ^ 10 + f.rn.val * 2 ^ 5 + f.rd.val * 2 ^ 0

/-- The operands of W64.MULH (R126). -/
def W64.MULH.ofWord (w : Nat) : W64.MULH where
  rm := reg5 w 16
  rn := reg5 w 5
  rd := reg5 w 0

/-- The field bits of W64.MULH (R126). -/
def W64.MULH.toWord (f : W64.MULH) : Nat :=
  f.rm.val * 2 ^ 16 + f.rn.val * 2 ^ 5 + f.rd.val * 2 ^ 0

/-- The operands of W64.LS (R127). -/
def W64.LS.ofWord (w : Nat) : W64.LS where
  rn := reg5 w 5
  rt := reg5 w 0
  addr := W64.Addr.ofWord w

/-- The field bits of W64.LS (R127). -/
def W64.LS.toWord (f : W64.LS) : Nat :=
  f.rn.val * 2 ^ 5 + f.rt.val * 2 ^ 0 + f.addr.toWord

/-- The operands of W64.LIT (R127). -/
def W64.LIT.ofWord (w : Nat) : W64.LIT where
  imm19 := immAt 19 w 5
  rt := reg5 w 0

/-- The field bits of W64.LIT (R127). -/
def W64.LIT.toWord (f : W64.LIT) : Nat :=
  f.imm19.toNat * 2 ^ 5 + f.rt.val * 2 ^ 0

/-- The operands of W64.LSP (R127). -/
def W64.LSP.ofWord (w : Nat) : W64.LSP where
  sf := bitAt w 31
  idx := immAt 2 w 23
  imm7 := immAt 7 w 15
  rt2 := reg5 w 10
  rn := reg5 w 5
  rt := reg5 w 0

/-- The field bits of W64.LSP (R127). -/
def W64.LSP.toWord (f : W64.LSP) : Nat :=
  f.sf.toNat * 2 ^ 31 + f.idx.toNat * 2 ^ 23 + f.imm7.toNat * 2 ^ 15 + f.rt2.val * 2 ^ 10 + f.rn.val * 2 ^ 5 + f.rt.val * 2 ^ 0

/-- The operands of W64.SYS (R128). -/
def W64.SYS.ofWord (w : Nat) : W64.SYS where
  rt := reg5 w 0

/-- The field bits of W64.SYS (R128). -/
def W64.SYS.toWord (f : W64.SYS) : Nat :=
  f.rt.val * 2 ^ 0

/-! ### F32 (R103, R104) -/

/-- Data-processing, by the 16 opcodes of `I[24:21]` (43_f32_data_processing.md R250). -/
def decodeF32Dp (w : Nat) : Option Instr :=
  match fld w 21 4 with
  | 0 => some (.f32And (.ofWord w))
  | 1 => some (.f32Eor (.ofWord w))
  | 2 => some (.f32Sub (.ofWord w))
  | 3 => some (.f32Rsb (.ofWord w))
  | 4 => some (.f32Add (.ofWord w))
  | 5 => some (.f32Adc (.ofWord w))
  | 6 => some (.f32Sbc (.ofWord w))
  | 7 => some (.f32Rsc (.ofWord w))
  | 8 => some (.f32Tst (.ofWord w))
  | 9 => some (.f32Teq (.ofWord w))
  | 10 => some (.f32Cmp (.ofWord w))
  | 11 => some (.f32Cmn (.ofWord w))
  | 12 => some (.f32Orr (.ofWord w))
  | 13 => some (.f32Mov (.ofWord w))
  | 14 => some (.f32Bic (.ofWord w))
  | _ => some (.f32Mvn (.ofWord w))

/-- The miscellaneous space (R109): `I[27:26] = 00`, `I[24:23] = 10`, `I[20] = 0`, here with `I[25] = 0`. -/
def decodeF32Misc (w : Nat) : Option Instr :=
  match fld w 4 4 with
  | 0 =>
    if fld w 16 12 = 0x10F ∧ fld w 0 12 = 0 then some (.f32MrsMisc (.ofWord w))
    else if fld w 20 8 = 0x12 ∧ fld w 8 8 = 0xF0 then some (.f32MsrMisc (.ofWord w))
    else none
  | 1 => if fld w 8 20 = 0x12FFF then some (.f32BxMisc (.ofWord w)) else none
  | 3 => if fld w 8 20 = 0x12FFF then some (.f32BlxMisc (.ofWord w)) else none
  | 5 =>
    if fld w 8 4 = 0 then
      match fld w 21 2 with
      | 0 => some (.f32QaddSat (.ofWord w))
      | 1 => some (.f32QsubSat (.ofWord w))
      | 2 => some (.f32QdaddSat (.ofWord w))
      | _ => some (.f32QdsubSat (.ofWord w))
    else none
  | _ => none

/-- Multiplies (R108) and swaps (R109): `I[27:25] = 000`, `I[7:4] = 1001`. -/
def decodeF32MulSwp (w : Nat) : Option Instr :=
  if fld w 24 1 = 0 then
    match fld w 21 3 with
    | 0 => some (.f32MulMul (.ofWord w))
    | 1 => some (.f32MlaMul (.ofWord w))
    | 4 => some (.f32UmullMull (.ofWord w))
    | 5 => some (.f32UmlalMull (.ofWord w))
    | 6 => some (.f32SmullMull (.ofWord w))
    | 7 => some (.f32SmlalMull (.ofWord w))
    | _ => none
  else if fld w 8 4 = 0 ∧ fld w 20 4 = 0 then some (.f32SwpSwp (.ofWord w))
  else if fld w 8 4 = 0 ∧ fld w 20 4 = 4 then some (.f32SwpbSwp (.ofWord w))
  else none

/-- Halfword, signed and doubleword load/store (R110), selected by `L` and `sh`; `P = 0` with `W = 1` is
unclassified, and the register form needs `I[11:8] = 0000`. -/
def decodeF32Half (w : Nat) : Option Instr :=
  if fld w 24 1 = 0 ∧ fld w 21 1 = 1 then none
  else if fld w 22 1 = 1 then
    match fld w 20 1 * 4 + fld w 5 2 with
    | 1 => some (.f32StrhLshi (.ofWord w))
    | 2 => some (.f32LdrdLshi (.ofWord w))
    | 3 => some (.f32StrdLshi (.ofWord w))
    | 5 => some (.f32LdrhLshi (.ofWord w))
    | 6 => some (.f32LdrsbLshi (.ofWord w))
    | 7 => some (.f32LdrshLshi (.ofWord w))
    | _ => none
  else if fld w 8 4 = 0 then
    match fld w 20 1 * 4 + fld w 5 2 with
    | 1 => some (.f32StrhLshr (.ofWord w))
    | 2 => some (.f32LdrdLshr (.ofWord w))
    | 3 => some (.f32StrdLshr (.ofWord w))
    | 5 => some (.f32LdrhLshr (.ofWord w))
    | 6 => some (.f32LdrsbLshr (.ofWord w))
    | 7 => some (.f32LdrshLshr (.ofWord w))
    | _ => none
  else none

/-- `I[27:25] = 000`. -/
def decodeF32Class0 (w : Nat) : Option Instr :=
  if fld w 7 1 = 1 ∧ fld w 4 1 = 1 then
    if fld w 5 2 = 0 then decodeF32MulSwp w else decodeF32Half w
  else if fld w 23 2 = 2 ∧ fld w 20 1 = 0 then decodeF32Misc w
  else decodeF32Dp w

/-- `I[27:25] = 001`: immediate data-processing and `MSR` immediate (R109). The row of `MSR` matches every field mask, also
the words of the family's hints; of the patterns a row matches, those that raise `Undefined` are the meaning's (R130):
`hintWord` of Machine/F32Data.lean names the absent hints. -/
def decodeF32Class1 (w : Nat) : Option Instr :=
  if fld w 23 2 = 2 ∧ fld w 20 1 = 0 then
    if fld w 20 5 = 18 ∧ fld w 12 4 = 15 then some (.f32MsrMsri (.ofWord w)) else none
  else decodeF32Dp w

/-- Word and byte load/store, immediate offset (R111), by `P`, `W`, `B`, `L`. -/
def decodeF32Lsi (w : Nat) : Option Instr :=
  if fld w 24 1 = 0 ∧ fld w 21 1 = 1 then
    match fld w 22 1 * 2 + fld w 20 1 with
    | 0 => some (.f32StrtLsi (.ofWord w))
    | 1 => some (.f32LdrtLsi (.ofWord w))
    | 2 => some (.f32StrbtLsi (.ofWord w))
    | _ => some (.f32LdrbtLsi (.ofWord w))
  else
    match fld w 22 1 * 2 + fld w 20 1 with
    | 0 => some (.f32StrLsi (.ofWord w))
    | 1 => some (.f32LdrLsi (.ofWord w))
    | 2 => some (.f32StrbLsi (.ofWord w))
    | _ => some (.f32LdrbLsi (.ofWord w))

/-- Word and byte load/store, register offset (R111). -/
def decodeF32Lsr (w : Nat) : Option Instr :=
  if fld w 24 1 = 0 ∧ fld w 21 1 = 1 then
    match fld w 22 1 * 2 + fld w 20 1 with
    | 0 => some (.f32StrtLsr (.ofWord w))
    | 1 => some (.f32LdrtLsr (.ofWord w))
    | 2 => some (.f32StrbtLsr (.ofWord w))
    | _ => some (.f32LdrbtLsr (.ofWord w))
  else
    match fld w 22 1 * 2 + fld w 20 1 with
    | 0 => some (.f32StrLsr (.ofWord w))
    | 1 => some (.f32LdrLsr (.ofWord w))
    | 2 => some (.f32StrbLsr (.ofWord w))
    | _ => some (.f32LdrbLsr (.ofWord w))

/-- `I[27:25] = 110`: vector load/store and the two-register transfers (R114). -/
def decodeF32Class6 (w : Nat) : Option Instr :=
  if fld w 8 4 = 10 ∧ fld w 22 1 = 0 ∧ ¬(fld w 24 1 = 0 ∧ fld w 21 1 = 0) then
    if fld w 20 1 = 1 then some (.f32VldrVls (.ofWord w)) else some (.f32VstrVls (.ofWord w))
  else if fld w 21 7 = 0x62 ∧ fld w 4 8 = 0xA0 then
    if fld w 20 1 = 1 then some (.f32VmovfvVxfer (.ofWord w)) else some (.f32VmovtvVxfer (.ofWord w))
  else none

/-- The lane operations, number `X:op` (R114); 31 is unclassified. -/
def decodeF32Vop (w : Nat) : Option Instr :=
  match fld w 8 1 * 16 + fld w 20 4 with
  | 0 => some (.f32VaddVop (.ofWord w))
  | 1 => some (.f32VsubVop (.ofWord w))
  | 2 => some (.f32VqaddVop (.ofWord w))
  | 3 => some (.f32VqsubVop (.ofWord w))
  | 4 => some (.f32VshrVop (.ofWord w))
  | 5 => some (.f32VrshrVop (.ofWord w))
  | 6 => some (.f32VmullbVop (.ofWord w))
  | 7 => some (.f32VmulltVop (.ofWord w))
  | 8 => some (.f32VdotVop (.ofWord w))
  | 9 => some (.f32VdotaVop (.ofWord w))
  | 10 => some (.f32VmulhVop (.ofWord w))
  | 11 => some (.f32VrmulhVop (.ofWord w))
  | 12 => some (.f32VpackVop (.ofWord w))
  | 13 => some (.f32VqpackVop (.ofWord w))
  | 14 => some (.f32VunpkbVop (.ofWord w))
  | 15 => some (.f32VunpktVop (.ofWord w))
  | 16 => some (.f32VzipbVop (.ofWord w))
  | 17 => some (.f32VziptVop (.ofWord w))
  | 18 => some (.f32VandVop (.ofWord w))
  | 19 => some (.f32VorrVop (.ofWord w))
  | 20 => some (.f32VeorVop (.ofWord w))
  | 21 => some (.f32VceqVop (.ofWord w))
  | 22 => some (.f32VcgtVop (.ofWord w))
  | 23 => some (.f32VcgeVop (.ofWord w))
  | 24 => some (.f32VfceqVop (.ofWord w))
  | 25 => some (.f32VfcgeVop (.ofWord w))
  | 26 => some (.f32VfcgtVop (.ofWord w))
  | 27 => some (.f32VfacgeVop (.ofWord w))
  | 28 => some (.f32VfacgtVop (.ofWord w))
  | 29 => some (.f32VfcmpVop (.ofWord w))
  | 30 => some (.f32VfcmpeVop (.ofWord w))
  | _ => none

/-- `I[27:25] = 111`: lane operations, vector control registers, privileged-state registers; `I[24] = 1` is
unclassified (R114, 45_f32_branch_system.md R363). -/
def decodeF32Class7 (w : Nat) : Option Instr :=
  if fld w 24 1 = 1 then none
  else if fld w 9 3 = 5 ∧ fld w 4 1 = 0 then decodeF32Vop w
  else if fld w 8 4 = 10 ∧ fld w 0 8 = 0x10 ∧ fld w 21 3 = 0 then
    if fld w 20 1 = 1 then some (.f32VmrsVctl (.ofWord w)) else some (.f32VmsrVctl (.ofWord w))
  else if fld w 8 4 = 15 ∧ fld w 4 1 = 1 then
    if fld w 20 1 = 1 then some (.f32SysrSys (.ofWord w)) else some (.f32SyswSys (.ofWord w))
  else none

/-- The F32 decoder (R104); `I[31:28] = 1111` is the unconditional space whose only member is `BLX` immediate
(R103). -/
def decodeF32 (w : Nat) : Option Instr :=
  if fld w 28 4 = 15 then
    if fld w 25 3 = 5 then some (.f32BlxBlxi (.ofWord w)) else none
  else
    match fld w 25 3 with
    | 0 => decodeF32Class0 w
    | 1 => decodeF32Class1 w
    | 2 => decodeF32Lsi w
    | 3 => if fld w 4 1 = 0 then decodeF32Lsr w else none
    | 4 => if fld w 20 1 = 1 then some (.f32LdmLsm (.ofWord w)) else some (.f32StmLsm (.ofWord w))
    | 5 => if fld w 24 1 = 1 then some (.f32BlBr (.ofWord w)) else some (.f32BBr (.ofWord w))
    | 6 => decodeF32Class6 w
    | _ => decodeF32Class7 w

/-! ### C16 (R116) -/

/-- The 16 two-register operations (R118). -/
def decodeC16Alu (w : Nat) : Option Instr :=
  match fld w 6 4 with
  | 0 => some (.c16AndsAlu (.ofWord w))
  | 1 => some (.c16EorsAlu (.ofWord w))
  | 2 => some (.c16LslsAlu (.ofWord w))
  | 3 => some (.c16LsrsAlu (.ofWord w))
  | 4 => some (.c16AsrsAlu (.ofWord w))
  | 5 => some (.c16AdcsAlu (.ofWord w))
  | 6 => some (.c16SbcsAlu (.ofWord w))
  | 7 => some (.c16RorsAlu (.ofWord w))
  | 8 => some (.c16TstAlu (.ofWord w))
  | 9 => some (.c16NegsAlu (.ofWord w))
  | 10 => some (.c16CmpAlu (.ofWord w))
  | 11 => some (.c16CmnAlu (.ofWord w))
  | 12 => some (.c16OrrsAlu (.ofWord w))
  | 13 => some (.c16MulsAlu (.ofWord w))
  | 14 => some (.c16BicsAlu (.ofWord w))
  | _ => some (.c16MvnsAlu (.ofWord w))

/-- Load/store with register offset (R119). -/
def decodeC16Lsr (w : Nat) : Option Instr :=
  match fld w 9 3 with
  | 0 => some (.c16StrLsr (.ofWord w))
  | 1 => some (.c16StrhLsr (.ofWord w))
  | 2 => some (.c16StrbLsr (.ofWord w))
  | 3 => some (.c16LdrsbLsr (.ofWord w))
  | 4 => some (.c16LdrLsr (.ofWord w))
  | 5 => some (.c16LdrhLsr (.ofWord w))
  | 6 => some (.c16LdrbLsr (.ofWord w))
  | _ => some (.c16LdrshLsr (.ofWord w))

/-- High-register operations and branch-exchange (R118). -/
def decodeC16Hi (w : Nat) : Option Instr :=
  match fld w 8 2 with
  | 0 => some (.c16AddHi (.ofWord w))
  | 1 => some (.c16CmpHi (.ofWord w))
  | 2 => some (.c16MovHi (.ofWord w))
  | _ => if fld w 7 1 = 0 then some (.c16BxBx (.ofWord w)) else some (.c16BlxBx (.ofWord w))

/-- `I[15:11] = 10110` and `10111`: stack adjust, `PUSH`, `POP`, `NOP`, `IT` (R119, R120). -/
def decodeC16Misc (w : Nat) : Option Instr :=
  if fld w 8 8 = 0xB0 then
    if fld w 7 1 = 0 then some (.c16AddSpa (.ofWord w)) else some (.c16SubSpa (.ofWord w))
  else if fld w 9 7 = 0x5A then some (.c16PushPp (.ofWord w))
  else if fld w 9 7 = 0x5E then some (.c16PopPp (.ofWord w))
  else if fld w 8 8 = 0xBF then
    if fld w 0 4 ≠ 0 then some (.c16ItIt (.ofWord w))
    else if fld w 4 4 = 0 then some .c16NopHint
    else none
  else none

/-- The C16 decoder, by `I[15:11]` (R116). -/
def decodeC16 (w : Nat) : Option Instr :=
  match fld w 11 5 with
  | 0 => some (.c16LslsShi (.ofWord w))
  | 1 => some (.c16LsrsShi (.ofWord w))
  | 2 => some (.c16AsrsShi (.ofWord w))
  | 3 =>
    match fld w 9 2 with
    | 0 => some (.c16AddsAs3 (.ofWord w))
    | 1 => some (.c16SubsAs3 (.ofWord w))
    | 2 => some (.c16AddsAs3i (.ofWord w))
    | _ => some (.c16SubsAs3i (.ofWord w))
  | 4 => some (.c16MovsI8 (.ofWord w))
  | 5 => some (.c16CmpI8 (.ofWord w))
  | 6 => some (.c16AddsI8 (.ofWord w))
  | 7 => some (.c16SubsI8 (.ofWord w))
  | 8 => if fld w 10 1 = 0 then decodeC16Alu w else decodeC16Hi w
  | 9 => some (.c16LdrLit (.ofWord w))
  | 10 => decodeC16Lsr w
  | 11 => decodeC16Lsr w
  | 12 => some (.c16StrLsi (.ofWord w))
  | 13 => some (.c16LdrLsi (.ofWord w))
  | 14 => some (.c16StrbLsi (.ofWord w))
  | 15 => some (.c16LdrbLsi (.ofWord w))
  | 16 => some (.c16StrhLsi (.ofWord w))
  | 17 => some (.c16LdrhLsi (.ofWord w))
  | 18 => some (.c16StrSpr (.ofWord w))
  | 19 => some (.c16LdrSpr (.ofWord w))
  | 20 => some (.c16AdrAdr (.ofWord w))
  | 21 => some (.c16AddAdr (.ofWord w))
  | 22 => decodeC16Misc w
  | 23 => decodeC16Misc w
  | 24 => some (.c16StmiaLsm (.ofWord w))
  | 25 => some (.c16LdmiaLsm (.ofWord w))
  | 26 => some (.c16BBc (.ofWord w))
  | 27 => if fld w 8 4 < 14 then some (.c16BBc (.ofWord w)) else none
  | 28 => some (.c16BB (.ofWord w))
  | 29 => if fld w 0 1 = 0 then some (.c16BlxBl2 (.ofWord w)) else none
  | 30 => some (.c16BlBl1 (.ofWord w))
  | _ => some (.c16BlBl2 (.ofWord w))

/-! ### W64 (R123) -/

/-- Data-processing, immediate: `I[28:26] = 100` (R124). -/
def decodeW64Imm (w : Nat) : Option Instr :=
  match fld w 23 3 with
  | 2 =>
    match fld w 29 2 with
    | 0 => some (.w64AddAsi (.ofWord w))
    | 1 => some (.w64AddsAsi (.ofWord w))
    | 2 => some (.w64SubAsi (.ofWord w))
    | _ => some (.w64SubsAsi (.ofWord w))
  | 5 =>
    if fld w 31 1 = 0 ∧ fld w 22 1 = 1 then none
    else
      match fld w 29 2 with
      | 0 => some (.w64MovnMovw (.ofWord w))
      | 2 => some (.w64MovzMovw (.ofWord w))
      | 3 => some (.w64MovkMovw (.ofWord w))
      | _ => none
  | 0 => if fld w 31 1 = 0 then some (.w64AdrAdr (.ofWord w)) else some (.w64AdrpAdr (.ofWord w))
  | 1 => if fld w 31 1 = 0 then some (.w64AdrAdr (.ofWord w)) else some (.w64AdrpAdr (.ofWord w))
  | _ => none

/-- Branches and system: `I[28:26] = 101` (R125, R128). -/
def decodeW64Branch (w : Nat) : Option Instr :=
  if fld w 26 6 = 5 then some (.w64BBi (.ofWord w))
  else if fld w 26 6 = 0x25 then some (.w64BlBi (.ofWord w))
  else if fld w 24 8 = 0x54 then
    if fld w 4 1 = 0 then some (.w64BcondBc (.ofWord w)) else none
  else if fld w 24 7 = 0x34 then some (.w64CbzCb (.ofWord w))
  else if fld w 24 7 = 0x35 then some (.w64CbnzCb (.ofWord w))
  else if fld w 24 7 = 0x36 then some (.w64TbzTb (.ofWord w))
  else if fld w 24 7 = 0x37 then some (.w64TbnzTb (.ofWord w))
  else if fld w 10 22 = 0x3587C0 ∧ fld w 0 5 = 0 then some (.w64BrBreg (.ofWord w))
  else if fld w 10 22 = 0x358FC0 ∧ fld w 0 5 = 0 then some (.w64BlrBreg (.ofWord w))
  else if fld w 10 22 = 0x3597C0 ∧ fld w 0 5 = 0 then some (.w64RetBreg (.ofWord w))
  else if fld w 0 32 = 0xD503201F then some .w64NopSys
  else if fld w 5 27 = 0x6A9DA10 then some (.w64MrsSys (.ofWord w))
  else if fld w 5 27 = 0x6A8DA10 then some (.w64MsrSys (.ofWord w))
  else none

/-- The (`size`, `opc`) selection of the single-register loads and stores (R127). -/
def decodeW64Ls (w : Nat) : Option Instr :=
  match fld w 30 2 * 4 + fld w 22 2 with
  | 0 => some (.w64Strb (.ofWord w))
  | 1 => some (.w64Ldrb (.ofWord w))
  | 2 => some (.w64Ldrsb (.ofWord w))
  | 3 => some (.w64Ldrsbw (.ofWord w))
  | 4 => some (.w64Strh (.ofWord w))
  | 5 => some (.w64Ldrh (.ofWord w))
  | 6 => some (.w64Ldrsh (.ofWord w))
  | 7 => some (.w64Ldrshw (.ofWord w))
  | 8 => some (.w64Strw (.ofWord w))
  | 9 => some (.w64Ldrw (.ofWord w))
  | 10 => some (.w64Ldrsw (.ofWord w))
  | 12 => some (.w64Strx (.ofWord w))
  | 13 => some (.w64Ldrx (.ofWord w))
  | _ => none

/-- Loads and stores: `I[27] = 1`, `I[25] = 0` (R127). -/
def decodeW64LoadStore (w : Nat) : Option Instr :=
  if fld w 24 6 = 0x39 then decodeW64Ls w
  else if fld w 24 6 = 0x38 then
    if fld w 21 1 = 0 then
      if fld w 10 2 = 2 then none else decodeW64Ls w
    else if fld w 10 2 = 2 ∧ fld w 14 1 = 1 then decodeW64Ls w
    else none
  else if fld w 24 6 = 0x18 then
    match fld w 30 2 with
    | 0 => some (.w64LdrwLit (.ofWord w))
    | 1 => some (.w64LdrxLit (.ofWord w))
    | 2 => some (.w64LdrswLit (.ofWord w))
    | _ => none
  else if fld w 25 6 = 0x14 ∧ fld w 23 2 ≠ 0 then
    if fld w 22 1 = 0 then some (.w64StpLsp (.ofWord w)) else some (.w64LdpLsp (.ofWord w))
  else none

/-- Logical, shifted register, by `opc` and `N` (R124). -/
def decodeW64Logr (w : Nat) : Option Instr :=
  match fld w 29 2 * 2 + fld w 21 1 with
  | 0 => some (.w64AndLogr (.ofWord w))
  | 1 => some (.w64BicLogr (.ofWord w))
  | 2 => some (.w64OrrLogr (.ofWord w))
  | 3 => some (.w64OrnLogr (.ofWord w))
  | 4 => some (.w64EorLogr (.ofWord w))
  | 5 => some (.w64EonLogr (.ofWord w))
  | 6 => some (.w64AndsLogr (.ofWord w))
  | _ => some (.w64BicsLogr (.ofWord w))

/-- Add and subtract, shifted register (R124). -/
def decodeW64Asr (w : Nat) : Option Instr :=
  match fld w 29 2 with
  | 0 => some (.w64AddAsr (.ofWord w))
  | 1 => some (.w64AddsAsr (.ofWord w))
  | 2 => some (.w64SubAsr (.ofWord w))
  | _ => some (.w64SubsAsr (.ofWord w))

/-- Two-source operations (R126). -/
def decodeW64Dp2 (w : Nat) : Option Instr :=
  match fld w 10 6 with
  | 2 => some (.w64UdivDp2 (.ofWord w))
  | 3 => some (.w64SdivDp2 (.ofWord w))
  | 8 => some (.w64LslvDp2 (.ofWord w))
  | 9 => some (.w64LsrvDp2 (.ofWord w))
  | 10 => some (.w64AsrvDp2 (.ofWord w))
  | 11 => some (.w64RorvDp2 (.ofWord w))
  | _ => none

/-- Three-source operations, by `op31` and `o0` (R126); all but `MADD` and `MSUB` need `sf = 1`. -/
def decodeW64Dp3 (w : Nat) : Option Instr :=
  match fld w 21 3 * 2 + fld w 15 1 with
  | 0 => some (.w64MaddDp3 (.ofWord w))
  | 1 => some (.w64MsubDp3 (.ofWord w))
  | 2 => if fld w 31 1 = 1 then some (.w64SmaddlDp3 (.ofWord w)) else none
  | 3 => if fld w 31 1 = 1 then some (.w64SmsublDp3 (.ofWord w)) else none
  | 4 => if fld w 31 1 = 1 then some (.w64SmulhDp3 (.ofWord w)) else none
  | 10 => if fld w 31 1 = 1 then some (.w64UmaddlDp3 (.ofWord w)) else none
  | 11 => if fld w 31 1 = 1 then some (.w64UmsublDp3 (.ofWord w)) else none
  | 12 => if fld w 31 1 = 1 then some (.w64UmulhDp3 (.ofWord w)) else none
  | _ => none

/-- Conditional select, by `op` and `o2` (R126). -/
def decodeW64Csel (w : Nat) : Option Instr :=
  match fld w 30 1 * 2 + fld w 10 1 with
  | 0 => some (.w64CselCsel (.ofWord w))
  | 1 => some (.w64CsincCsel (.ofWord w))
  | 2 => some (.w64CsinvCsel (.ofWord w))
  | _ => some (.w64CsnegCsel (.ofWord w))

/-- Data-processing, register: `I[27:25] = 101` (R124, R126). -/
def decodeW64Reg (w : Nat) : Option Instr :=
  if fld w 24 5 = 11 then
    if fld w 21 1 = 1 ∨ fld w 22 2 = 3 ∨ (fld w 31 1 = 0 ∧ fld w 15 1 = 1) then none else decodeW64Asr w
  else if fld w 24 5 = 10 then
    if fld w 31 1 = 0 ∧ fld w 15 1 = 1 then none else decodeW64Logr w
  else if fld w 21 8 = 0xD4 ∧ fld w 29 1 = 0 ∧ fld w 11 1 = 0 then decodeW64Csel w
  else if fld w 21 10 = 0xD6 then decodeW64Dp2 w
  else if fld w 24 7 = 0x1B then decodeW64Dp3 w
  else none

/-- The W64 decoder, by `I[28:25]` (R123). -/
def decodeW64 (w : Nat) : Option Instr :=
  match fld w 25 4 with
  | 8 => decodeW64Imm w
  | 9 => decodeW64Imm w
  | 10 => decodeW64Branch w
  | 11 => decodeW64Branch w
  | 4 => decodeW64LoadStore w
  | 6 => decodeW64LoadStore w
  | 12 => decodeW64LoadStore w
  | 14 => decodeW64LoadStore w
  | 5 => decodeW64Reg w
  | 13 => decodeW64Reg w
  | _ => none

/-! ### Words and bytes -/

/-- Why no instruction was read: the unclassified patterns of each encoding (30_encoding.md R130), and a byte list
shorter than the instruction. -/
inductive DecodeError where
  | f32Unclassified (word : Nat)
  | c16Unclassified (half : Nat)
  | w64Unclassified (word : Nat)
  | truncated (bytes : Nat)
deriving DecidableEq, Repr

/-- The length in bytes of every instruction of an encoding (30_encoding.md R100). -/
def Mode.instrBytes : Mode → Nat
  | .f32 => 4
  | .c16 => 2
  | .w64 => 4

/-- The decoder `mode` selects (30_encoding.md R101), on the fetched bits. -/
def decodeWord (m : Mode) (w : Nat) : Except DecodeError Instr :=
  match m with
  | .f32 =>
    match decodeF32 w with
    | some i => .ok i
    | none => .error (.f32Unclassified w)
  | .c16 =>
    match decodeC16 w with
    | some i => .ok i
    | none => .error (.c16Unclassified w)
  | .w64 =>
    match decodeW64 w with
    | some i => .ok i
    | none => .error (.w64Unclassified w)

/-- The number whose bytes are `bs` at ascending addresses, little-endian (20_memory.md R76). -/
def littleValue : List Byte → Nat
  | [] => 0
  | b :: bs => b.toNat + 256 * littleValue bs

/-- The value of the bytes `bs` at ascending addresses in byte order `e` (20_memory.md R76, R77). -/
def bytesValue (e : Endian) (bs : List Byte) : Nat :=
  match e with
  | .little => littleValue bs
  | .big => littleValue bs.reverse

/-- The little-endian bytes of `w`, `n` of them. -/
def littleBytes (w : Nat) : Nat → List Byte
  | 0 => []
  | n + 1 => BitVec.ofNat 8 w :: littleBytes (w / 256) n

/-- The `n` bytes of `w` at ascending addresses in byte order `e` (20_memory.md R76). -/
def wordBytes (e : Endian) (w n : Nat) : List Byte :=
  match e with
  | .little => littleBytes w n
  | .big => (littleBytes w n).reverse

/-- One instruction read from a list of bytes at ascending addresses, with the bytes left over. -/
def decodeBytes (m : Mode) (e : Endian) (bs : List Byte) : Except DecodeError (Instr × List Byte) :=
  if bs.length < m.instrBytes then .error (.truncated bs.length)
  else
    match decodeWord m (bytesValue e (bs.take m.instrBytes)) with
    | .ok i => .ok (i, bs.drop m.instrBytes)
    | .error r => .error r

/-- Which decoder a 32-bit table word is meant for when both classify it: DESIGN CHOICE of the model's own
convention for words that come without a mode (assumption log 10). -/
def tableWordIsW64 (w : Nat) : Bool :=
  w % 2 ^ 24 == 0 || (2 ≤ fld w 25 3 && fld w 25 3 ≤ 5) || fld w 23 6 == 0x25 || fld w 23 6 == 0x22

/-- The mode in which a table row's word of `nbits` bits is run: C16 for 16 bits; for 32 bits the encoding whose
decoder classifies it, and `tableWordIsW64` where both do. -/
def tableWordMode (nbits w : Nat) : Mode :=
  if nbits = 16 then .c16
  else
    match decodeF32 w, decodeW64 w with
    | some _, some _ => if tableWordIsW64 w then .w64 else .f32
    | none, some _ => .w64
    | _, none => .f32

/-- The instruction the decoder reads from a table row's word: its bytes are laid out little-endian and given to
`decodeBytes`. A width that no row has is refused. -/
def decodeTableWord (nbits w : Nat) : Option Instr :=
  if nbits = 16 ∨ nbits = 32 then
    match decodeBytes (tableWordMode nbits w) .little (wordBytes .little w (nbits / 8)) with
    | .ok (i, _) => some i
    | .error _ => none
  else none

/-! ### The encoder -/

/-- The encoding an instruction belongs to. -/
def Instr.mode : Instr → Mode
  | .f32And _ => .f32
  | .f32Eor _ => .f32
  | .f32Sub _ => .f32
  | .f32Rsb _ => .f32
  | .f32Add _ => .f32
  | .f32Adc _ => .f32
  | .f32Sbc _ => .f32
  | .f32Rsc _ => .f32
  | .f32Tst _ => .f32
  | .f32Teq _ => .f32
  | .f32Cmp _ => .f32
  | .f32Cmn _ => .f32
  | .f32Orr _ => .f32
  | .f32Mov _ => .f32
  | .f32Bic _ => .f32
  | .f32Mvn _ => .f32
  | .f32MulMul _ => .f32
  | .f32MlaMul _ => .f32
  | .f32UmullMull _ => .f32
  | .f32UmlalMull _ => .f32
  | .f32SmullMull _ => .f32
  | .f32SmlalMull _ => .f32
  | .f32SwpSwp _ => .f32
  | .f32SwpbSwp _ => .f32
  | .f32MrsMisc _ => .f32
  | .f32MsrMisc _ => .f32
  | .f32MsrMsri _ => .f32
  | .f32BxMisc _ => .f32
  | .f32BlxMisc _ => .f32
  | .f32QaddSat _ => .f32
  | .f32QsubSat _ => .f32
  | .f32QdaddSat _ => .f32
  | .f32QdsubSat _ => .f32
  | .f32StrhLshi _ => .f32
  | .f32StrhLshr _ => .f32
  | .f32LdrdLshi _ => .f32
  | .f32LdrdLshr _ => .f32
  | .f32StrdLshi _ => .f32
  | .f32StrdLshr _ => .f32
  | .f32LdrhLshi _ => .f32
  | .f32LdrhLshr _ => .f32
  | .f32LdrsbLshi _ => .f32
  | .f32LdrsbLshr _ => .f32
  | .f32LdrshLshi _ => .f32
  | .f32LdrshLshr _ => .f32
  | .f32StrLsi _ => .f32
  | .f32StrLsr _ => .f32
  | .f32StrtLsi _ => .f32
  | .f32StrtLsr _ => .f32
  | .f32LdrLsi _ => .f32
  | .f32LdrLsr _ => .f32
  | .f32LdrtLsi _ => .f32
  | .f32LdrtLsr _ => .f32
  | .f32StrbLsi _ => .f32
  | .f32StrbLsr _ => .f32
  | .f32StrbtLsi _ => .f32
  | .f32StrbtLsr _ => .f32
  | .f32LdrbLsi _ => .f32
  | .f32LdrbLsr _ => .f32
  | .f32LdrbtLsi _ => .f32
  | .f32LdrbtLsr _ => .f32
  | .f32StmLsm _ => .f32
  | .f32LdmLsm _ => .f32
  | .f32BBr _ => .f32
  | .f32BlBr _ => .f32
  | .f32BlxBlxi _ => .f32
  | .f32VaddVop _ => .f32
  | .f32VsubVop _ => .f32
  | .f32VqaddVop _ => .f32
  | .f32VqsubVop _ => .f32
  | .f32VshrVop _ => .f32
  | .f32VrshrVop _ => .f32
  | .f32VmullbVop _ => .f32
  | .f32VmulltVop _ => .f32
  | .f32VdotVop _ => .f32
  | .f32VdotaVop _ => .f32
  | .f32VmulhVop _ => .f32
  | .f32VrmulhVop _ => .f32
  | .f32VpackVop _ => .f32
  | .f32VqpackVop _ => .f32
  | .f32VunpkbVop _ => .f32
  | .f32VunpktVop _ => .f32
  | .f32VzipbVop _ => .f32
  | .f32VziptVop _ => .f32
  | .f32VandVop _ => .f32
  | .f32VorrVop _ => .f32
  | .f32VeorVop _ => .f32
  | .f32VceqVop _ => .f32
  | .f32VcgtVop _ => .f32
  | .f32VcgeVop _ => .f32
  | .f32VfceqVop _ => .f32
  | .f32VfcgeVop _ => .f32
  | .f32VfcgtVop _ => .f32
  | .f32VfacgeVop _ => .f32
  | .f32VfacgtVop _ => .f32
  | .f32VfcmpVop _ => .f32
  | .f32VfcmpeVop _ => .f32
  | .f32VmovtvVxfer _ => .f32
  | .f32VmovfvVxfer _ => .f32
  | .f32VmsrVctl _ => .f32
  | .f32VmrsVctl _ => .f32
  | .f32VstrVls _ => .f32
  | .f32VldrVls _ => .f32
  | .f32SyswSys _ => .f32
  | .f32SysrSys _ => .f32
  | .c16LslsShi _ => .c16
  | .c16LsrsShi _ => .c16
  | .c16AsrsShi _ => .c16
  | .c16AddsAs3 _ => .c16
  | .c16SubsAs3 _ => .c16
  | .c16AddsAs3i _ => .c16
  | .c16SubsAs3i _ => .c16
  | .c16MovsI8 _ => .c16
  | .c16CmpI8 _ => .c16
  | .c16AddsI8 _ => .c16
  | .c16SubsI8 _ => .c16
  | .c16AndsAlu _ => .c16
  | .c16EorsAlu _ => .c16
  | .c16LslsAlu _ => .c16
  | .c16LsrsAlu _ => .c16
  | .c16AsrsAlu _ => .c16
  | .c16AdcsAlu _ => .c16
  | .c16SbcsAlu _ => .c16
  | .c16RorsAlu _ => .c16
  | .c16TstAlu _ => .c16
  | .c16NegsAlu _ => .c16
  | .c16CmpAlu _ => .c16
  | .c16CmnAlu _ => .c16
  | .c16OrrsAlu _ => .c16
  | .c16MulsAlu _ => .c16
  | .c16BicsAlu _ => .c16
  | .c16MvnsAlu _ => .c16
  | .c16AddHi _ => .c16
  | .c16CmpHi _ => .c16
  | .c16MovHi _ => .c16
  | .c16BxBx _ => .c16
  | .c16BlxBx _ => .c16
  | .c16LdrLit _ => .c16
  | .c16StrLsr _ => .c16
  | .c16StrhLsr _ => .c16
  | .c16StrbLsr _ => .c16
  | .c16LdrsbLsr _ => .c16
  | .c16LdrLsr _ => .c16
  | .c16LdrhLsr _ => .c16
  | .c16LdrbLsr _ => .c16
  | .c16LdrshLsr _ => .c16
  | .c16StrLsi _ => .c16
  | .c16LdrLsi _ => .c16
  | .c16StrbLsi _ => .c16
  | .c16LdrbLsi _ => .c16
  | .c16StrhLsi _ => .c16
  | .c16LdrhLsi _ => .c16
  | .c16StrSpr _ => .c16
  | .c16LdrSpr _ => .c16
  | .c16AdrAdr _ => .c16
  | .c16AddAdr _ => .c16
  | .c16AddSpa _ => .c16
  | .c16SubSpa _ => .c16
  | .c16PushPp _ => .c16
  | .c16PopPp _ => .c16
  | .c16NopHint => .c16
  | .c16ItIt _ => .c16
  | .c16StmiaLsm _ => .c16
  | .c16LdmiaLsm _ => .c16
  | .c16BBc _ => .c16
  | .c16BB _ => .c16
  | .c16BlxBl2 _ => .c16
  | .c16BlBl1 _ => .c16
  | .c16BlBl2 _ => .c16
  | .w64AddAsi _ => .w64
  | .w64AddsAsi _ => .w64
  | .w64SubAsi _ => .w64
  | .w64SubsAsi _ => .w64
  | .w64AddAsr _ => .w64
  | .w64AddsAsr _ => .w64
  | .w64SubAsr _ => .w64
  | .w64SubsAsr _ => .w64
  | .w64AndLogr _ => .w64
  | .w64BicLogr _ => .w64
  | .w64OrrLogr _ => .w64
  | .w64OrnLogr _ => .w64
  | .w64EorLogr _ => .w64
  | .w64EonLogr _ => .w64
  | .w64AndsLogr _ => .w64
  | .w64BicsLogr _ => .w64
  | .w64MovnMovw _ => .w64
  | .w64MovzMovw _ => .w64
  | .w64MovkMovw _ => .w64
  | .w64AdrAdr _ => .w64
  | .w64AdrpAdr _ => .w64
  | .w64BBi _ => .w64
  | .w64BlBi _ => .w64
  | .w64BcondBc _ => .w64
  | .w64CbzCb _ => .w64
  | .w64CbnzCb _ => .w64
  | .w64TbzTb _ => .w64
  | .w64TbnzTb _ => .w64
  | .w64BrBreg _ => .w64
  | .w64BlrBreg _ => .w64
  | .w64RetBreg _ => .w64
  | .w64CselCsel _ => .w64
  | .w64CsincCsel _ => .w64
  | .w64CsinvCsel _ => .w64
  | .w64CsnegCsel _ => .w64
  | .w64UdivDp2 _ => .w64
  | .w64SdivDp2 _ => .w64
  | .w64LslvDp2 _ => .w64
  | .w64LsrvDp2 _ => .w64
  | .w64AsrvDp2 _ => .w64
  | .w64RorvDp2 _ => .w64
  | .w64MaddDp3 _ => .w64
  | .w64MsubDp3 _ => .w64
  | .w64SmaddlDp3 _ => .w64
  | .w64SmsublDp3 _ => .w64
  | .w64SmulhDp3 _ => .w64
  | .w64UmaddlDp3 _ => .w64
  | .w64UmsublDp3 _ => .w64
  | .w64UmulhDp3 _ => .w64
  | .w64Strb _ => .w64
  | .w64Ldrb _ => .w64
  | .w64Ldrsb _ => .w64
  | .w64Ldrsbw _ => .w64
  | .w64Strh _ => .w64
  | .w64Ldrh _ => .w64
  | .w64Ldrsh _ => .w64
  | .w64Ldrshw _ => .w64
  | .w64Strw _ => .w64
  | .w64Ldrw _ => .w64
  | .w64Ldrsw _ => .w64
  | .w64Strx _ => .w64
  | .w64Ldrx _ => .w64
  | .w64LdrwLit _ => .w64
  | .w64LdrxLit _ => .w64
  | .w64LdrswLit _ => .w64
  | .w64StpLsp _ => .w64
  | .w64LdpLsp _ => .w64
  | .w64NopSys => .w64
  | .w64MrsSys _ => .w64
  | .w64MsrSys _ => .w64

/-- The word (or half) of an instruction: the fixed bits of its row and the bits of its fields. -/
def encode : Instr → Nat
  | .f32And f => 0x00000000 + f.toWord
  | .f32Eor f => 0x00200000 + f.toWord
  | .f32Sub f => 0x00400000 + f.toWord
  | .f32Rsb f => 0x00600000 + f.toWord
  | .f32Add f => 0x00800000 + f.toWord
  | .f32Adc f => 0x00A00000 + f.toWord
  | .f32Sbc f => 0x00C00000 + f.toWord
  | .f32Rsc f => 0x00E00000 + f.toWord
  | .f32Tst f => 0x01100000 + f.toWord
  | .f32Teq f => 0x01300000 + f.toWord
  | .f32Cmp f => 0x01500000 + f.toWord
  | .f32Cmn f => 0x01700000 + f.toWord
  | .f32Orr f => 0x01800000 + f.toWord
  | .f32Mov f => 0x01A00000 + f.toWord
  | .f32Bic f => 0x01C00000 + f.toWord
  | .f32Mvn f => 0x01E00000 + f.toWord
  | .f32MulMul f => 0x00000090 + f.toWord
  | .f32MlaMul f => 0x00200090 + f.toWord
  | .f32UmullMull f => 0x00800090 + f.toWord
  | .f32UmlalMull f => 0x00A00090 + f.toWord
  | .f32SmullMull f => 0x00C00090 + f.toWord
  | .f32SmlalMull f => 0x00E00090 + f.toWord
  | .f32SwpSwp f => 0x01000090 + f.toWord
  | .f32SwpbSwp f => 0x01400090 + f.toWord
  | .f32MrsMisc f => 0x010F0000 + f.toWord
  | .f32MsrMisc f => 0x0120F000 + f.toWord
  | .f32MsrMsri f => 0x0320F000 + f.toWord
  | .f32BxMisc f => 0x012FFF10 + f.toWord
  | .f32BlxMisc f => 0x012FFF30 + f.toWord
  | .f32QaddSat f => 0x01000050 + f.toWord
  | .f32QsubSat f => 0x01200050 + f.toWord
  | .f32QdaddSat f => 0x01400050 + f.toWord
  | .f32QdsubSat f => 0x01600050 + f.toWord
  | .f32StrhLshi f => 0x004000B0 + f.toWord
  | .f32StrhLshr f => 0x000000B0 + f.toWord
  | .f32LdrdLshi f => 0x004000D0 + f.toWord
  | .f32LdrdLshr f => 0x000000D0 + f.toWord
  | .f32StrdLshi f => 0x004000F0 + f.toWord
  | .f32StrdLshr f => 0x000000F0 + f.toWord
  | .f32LdrhLshi f => 0x005000B0 + f.toWord
  | .f32LdrhLshr f => 0x001000B0 + f.toWord
  | .f32LdrsbLshi f => 0x005000D0 + f.toWord
  | .f32LdrsbLshr f => 0x001000D0 + f.toWord
  | .f32LdrshLshi f => 0x005000F0 + f.toWord
  | .f32LdrshLshr f => 0x001000F0 + f.toWord
  | .f32StrLsi f => 0x04000000 + f.toWord
  | .f32StrLsr f => 0x06000000 + f.toWord
  | .f32StrtLsi f => 0x04200000 + f.toWord
  | .f32StrtLsr f => 0x06200000 + f.toWord
  | .f32LdrLsi f => 0x04100000 + f.toWord
  | .f32LdrLsr f => 0x06100000 + f.toWord
  | .f32LdrtLsi f => 0x04300000 + f.toWord
  | .f32LdrtLsr f => 0x06300000 + f.toWord
  | .f32StrbLsi f => 0x04400000 + f.toWord
  | .f32StrbLsr f => 0x06400000 + f.toWord
  | .f32StrbtLsi f => 0x04600000 + f.toWord
  | .f32StrbtLsr f => 0x06600000 + f.toWord
  | .f32LdrbLsi f => 0x04500000 + f.toWord
  | .f32LdrbLsr f => 0x06500000 + f.toWord
  | .f32LdrbtLsi f => 0x04700000 + f.toWord
  | .f32LdrbtLsr f => 0x06700000 + f.toWord
  | .f32StmLsm f => 0x08000000 + f.toWord
  | .f32LdmLsm f => 0x08100000 + f.toWord
  | .f32BBr f => 0x0A000000 + f.toWord
  | .f32BlBr f => 0x0B000000 + f.toWord
  | .f32BlxBlxi f => 0xFA000000 + f.toWord
  | .f32VaddVop f => 0x0E000A00 + f.toWord
  | .f32VsubVop f => 0x0E100A00 + f.toWord
  | .f32VqaddVop f => 0x0E200A00 + f.toWord
  | .f32VqsubVop f => 0x0E300A00 + f.toWord
  | .f32VshrVop f => 0x0E400A00 + f.toWord
  | .f32VrshrVop f => 0x0E500A00 + f.toWord
  | .f32VmullbVop f => 0x0E600A00 + f.toWord
  | .f32VmulltVop f => 0x0E700A00 + f.toWord
  | .f32VdotVop f => 0x0E800A00 + f.toWord
  | .f32VdotaVop f => 0x0E900A00 + f.toWord
  | .f32VmulhVop f => 0x0EA00A00 + f.toWord
  | .f32VrmulhVop f => 0x0EB00A00 + f.toWord
  | .f32VpackVop f => 0x0EC00A00 + f.toWord
  | .f32VqpackVop f => 0x0ED00A00 + f.toWord
  | .f32VunpkbVop f => 0x0EE00A00 + f.toWord
  | .f32VunpktVop f => 0x0EF00A00 + f.toWord
  | .f32VzipbVop f => 0x0E000B00 + f.toWord
  | .f32VziptVop f => 0x0E100B00 + f.toWord
  | .f32VandVop f => 0x0E200B00 + f.toWord
  | .f32VorrVop f => 0x0E300B00 + f.toWord
  | .f32VeorVop f => 0x0E400B00 + f.toWord
  | .f32VceqVop f => 0x0E500B00 + f.toWord
  | .f32VcgtVop f => 0x0E600B00 + f.toWord
  | .f32VcgeVop f => 0x0E700B00 + f.toWord
  | .f32VfceqVop f => 0x0E800B00 + f.toWord
  | .f32VfcgeVop f => 0x0E900B00 + f.toWord
  | .f32VfcgtVop f => 0x0EA00B00 + f.toWord
  | .f32VfacgeVop f => 0x0EB00B00 + f.toWord
  | .f32VfacgtVop f => 0x0EC00B00 + f.toWord
  | .f32VfcmpVop f => 0x0ED00B00 + f.toWord
  | .f32VfcmpeVop f => 0x0EE00B00 + f.toWord
  | .f32VmovtvVxfer f => 0x0C400A00 + f.toWord
  | .f32VmovfvVxfer f => 0x0C500A00 + f.toWord
  | .f32VmsrVctl f => 0x0E000A10 + f.toWord
  | .f32VmrsVctl f => 0x0E100A10 + f.toWord
  | .f32VstrVls f => 0x0C000A00 + f.toWord
  | .f32VldrVls f => 0x0C100A00 + f.toWord
  | .f32SyswSys f => 0x0E000F10 + f.toWord
  | .f32SysrSys f => 0x0E100F10 + f.toWord
  | .c16LslsShi f => 0x0000 + f.toWord
  | .c16LsrsShi f => 0x0800 + f.toWord
  | .c16AsrsShi f => 0x1000 + f.toWord
  | .c16AddsAs3 f => 0x1800 + f.toWord
  | .c16SubsAs3 f => 0x1A00 + f.toWord
  | .c16AddsAs3i f => 0x1C00 + f.toWord
  | .c16SubsAs3i f => 0x1E00 + f.toWord
  | .c16MovsI8 f => 0x2000 + f.toWord
  | .c16CmpI8 f => 0x2800 + f.toWord
  | .c16AddsI8 f => 0x3000 + f.toWord
  | .c16SubsI8 f => 0x3800 + f.toWord
  | .c16AndsAlu f => 0x4000 + f.toWord
  | .c16EorsAlu f => 0x4040 + f.toWord
  | .c16LslsAlu f => 0x4080 + f.toWord
  | .c16LsrsAlu f => 0x40C0 + f.toWord
  | .c16AsrsAlu f => 0x4100 + f.toWord
  | .c16AdcsAlu f => 0x4140 + f.toWord
  | .c16SbcsAlu f => 0x4180 + f.toWord
  | .c16RorsAlu f => 0x41C0 + f.toWord
  | .c16TstAlu f => 0x4200 + f.toWord
  | .c16NegsAlu f => 0x4240 + f.toWord
  | .c16CmpAlu f => 0x4280 + f.toWord
  | .c16CmnAlu f => 0x42C0 + f.toWord
  | .c16OrrsAlu f => 0x4300 + f.toWord
  | .c16MulsAlu f => 0x4340 + f.toWord
  | .c16BicsAlu f => 0x4380 + f.toWord
  | .c16MvnsAlu f => 0x43C0 + f.toWord
  | .c16AddHi f => 0x4400 + f.toWord
  | .c16CmpHi f => 0x4500 + f.toWord
  | .c16MovHi f => 0x4600 + f.toWord
  | .c16BxBx f => 0x4700 + f.toWord
  | .c16BlxBx f => 0x4780 + f.toWord
  | .c16LdrLit f => 0x4800 + f.toWord
  | .c16StrLsr f => 0x5000 + f.toWord
  | .c16StrhLsr f => 0x5200 + f.toWord
  | .c16StrbLsr f => 0x5400 + f.toWord
  | .c16LdrsbLsr f => 0x5600 + f.toWord
  | .c16LdrLsr f => 0x5800 + f.toWord
  | .c16LdrhLsr f => 0x5A00 + f.toWord
  | .c16LdrbLsr f => 0x5C00 + f.toWord
  | .c16LdrshLsr f => 0x5E00 + f.toWord
  | .c16StrLsi f => 0x6000 + f.toWord
  | .c16LdrLsi f => 0x6800 + f.toWord
  | .c16StrbLsi f => 0x7000 + f.toWord
  | .c16LdrbLsi f => 0x7800 + f.toWord
  | .c16StrhLsi f => 0x8000 + f.toWord
  | .c16LdrhLsi f => 0x8800 + f.toWord
  | .c16StrSpr f => 0x9000 + f.toWord
  | .c16LdrSpr f => 0x9800 + f.toWord
  | .c16AdrAdr f => 0xA000 + f.toWord
  | .c16AddAdr f => 0xA800 + f.toWord
  | .c16AddSpa f => 0xB000 + f.toWord
  | .c16SubSpa f => 0xB080 + f.toWord
  | .c16PushPp f => 0xB400 + f.toWord
  | .c16PopPp f => 0xBC00 + f.toWord
  | .c16NopHint => 0xBF00
  | .c16ItIt f => 0xBF00 + f.toWord
  | .c16StmiaLsm f => 0xC000 + f.toWord
  | .c16LdmiaLsm f => 0xC800 + f.toWord
  | .c16BBc f => 0xD000 + f.toWord
  | .c16BB f => 0xE000 + f.toWord
  | .c16BlxBl2 f => 0xE800 + f.toWord
  | .c16BlBl1 f => 0xF000 + f.toWord
  | .c16BlBl2 f => 0xF800 + f.toWord
  | .w64AddAsi f => 0x11000000 + f.toWord
  | .w64AddsAsi f => 0x31000000 + f.toWord
  | .w64SubAsi f => 0x51000000 + f.toWord
  | .w64SubsAsi f => 0x71000000 + f.toWord
  | .w64AddAsr f => 0x0B000000 + f.toWord
  | .w64AddsAsr f => 0x2B000000 + f.toWord
  | .w64SubAsr f => 0x4B000000 + f.toWord
  | .w64SubsAsr f => 0x6B000000 + f.toWord
  | .w64AndLogr f => 0x0A000000 + f.toWord
  | .w64BicLogr f => 0x0A200000 + f.toWord
  | .w64OrrLogr f => 0x2A000000 + f.toWord
  | .w64OrnLogr f => 0x2A200000 + f.toWord
  | .w64EorLogr f => 0x4A000000 + f.toWord
  | .w64EonLogr f => 0x4A200000 + f.toWord
  | .w64AndsLogr f => 0x6A000000 + f.toWord
  | .w64BicsLogr f => 0x6A200000 + f.toWord
  | .w64MovnMovw f => 0x12800000 + f.toWord
  | .w64MovzMovw f => 0x52800000 + f.toWord
  | .w64MovkMovw f => 0x72800000 + f.toWord
  | .w64AdrAdr f => 0x10000000 + f.toWord
  | .w64AdrpAdr f => 0x90000000 + f.toWord
  | .w64BBi f => 0x14000000 + f.toWord
  | .w64BlBi f => 0x94000000 + f.toWord
  | .w64BcondBc f => 0x54000000 + f.toWord
  | .w64CbzCb f => 0x34000000 + f.toWord
  | .w64CbnzCb f => 0x35000000 + f.toWord
  | .w64TbzTb f => 0x36000000 + f.toWord
  | .w64TbnzTb f => 0x37000000 + f.toWord
  | .w64BrBreg f => 0xD61F0000 + f.toWord
  | .w64BlrBreg f => 0xD63F0000 + f.toWord
  | .w64RetBreg f => 0xD65F0000 + f.toWord
  | .w64CselCsel f => 0x1A800000 + f.toWord
  | .w64CsincCsel f => 0x1A800400 + f.toWord
  | .w64CsinvCsel f => 0x5A800000 + f.toWord
  | .w64CsnegCsel f => 0x5A800400 + f.toWord
  | .w64UdivDp2 f => 0x1AC00800 + f.toWord
  | .w64SdivDp2 f => 0x1AC00C00 + f.toWord
  | .w64LslvDp2 f => 0x1AC02000 + f.toWord
  | .w64LsrvDp2 f => 0x1AC02400 + f.toWord
  | .w64AsrvDp2 f => 0x1AC02800 + f.toWord
  | .w64RorvDp2 f => 0x1AC02C00 + f.toWord
  | .w64MaddDp3 f => 0x1B000000 + f.toWord
  | .w64MsubDp3 f => 0x1B008000 + f.toWord
  | .w64SmaddlDp3 f => 0x9B200000 + f.toWord
  | .w64SmsublDp3 f => 0x9B208000 + f.toWord
  | .w64SmulhDp3 f => 0x9B400000 + f.toWord
  | .w64UmaddlDp3 f => 0x9BA00000 + f.toWord
  | .w64UmsublDp3 f => 0x9BA08000 + f.toWord
  | .w64UmulhDp3 f => 0x9BC00000 + f.toWord
  | .w64Strb f => 0x38000000 + f.toWord
  | .w64Ldrb f => 0x38400000 + f.toWord
  | .w64Ldrsb f => 0x38800000 + f.toWord
  | .w64Ldrsbw f => 0x38C00000 + f.toWord
  | .w64Strh f => 0x78000000 + f.toWord
  | .w64Ldrh f => 0x78400000 + f.toWord
  | .w64Ldrsh f => 0x78800000 + f.toWord
  | .w64Ldrshw f => 0x78C00000 + f.toWord
  | .w64Strw f => 0xB8000000 + f.toWord
  | .w64Ldrw f => 0xB8400000 + f.toWord
  | .w64Ldrsw f => 0xB8800000 + f.toWord
  | .w64Strx f => 0xF8000000 + f.toWord
  | .w64Ldrx f => 0xF8400000 + f.toWord
  | .w64LdrwLit f => 0x18000000 + f.toWord
  | .w64LdrxLit f => 0x58000000 + f.toWord
  | .w64LdrswLit f => 0x98000000 + f.toWord
  | .w64StpLsp f => 0x28000000 + f.toWord
  | .w64LdpLsp f => 0x28400000 + f.toWord
  | .w64NopSys => 0xD503201F
  | .w64MrsSys f => 0xD53B4200 + f.toWord
  | .w64MsrSys f => 0xD51B4200 + f.toWord

/-- The bytes of an instruction at ascending addresses. -/
def encodeBytes (e : Endian) (i : Instr) : List Byte := wordBytes e (encode i) i.mode.instrBytes

/-! ### Words written out from the spec's encodings

One word for every row of the opcode table, taken from the spec's vector tables, with the instruction it stands for. -/

/-- F32 words of 96_test_vectors_instructions.md section 7.1, with the fields it lists: AND to SBC. -/
def f32WordsA : List (Nat × Instr) := [
  (0xE213A4FF, .f32And ⟨14, true, 3, 10, .imm 4 0xff⟩),
  (0xE014A0A3, .f32And ⟨14, true, 4, 10, .reg 1 .lsr 3⟩),
  (0xE015A277, .f32And ⟨14, true, 5, 10, .regShift 2 .ror 7⟩),
  (0xE233A4FF, .f32Eor ⟨14, true, 3, 10, .imm 4 0xff⟩),
  (0xE034A0A3, .f32Eor ⟨14, true, 4, 10, .reg 1 .lsr 3⟩),
  (0xE035A277, .f32Eor ⟨14, true, 5, 10, .regShift 2 .ror 7⟩),
  (0xE253A4FF, .f32Sub ⟨14, true, 3, 10, .imm 4 0xff⟩),
  (0xE054A0A3, .f32Sub ⟨14, true, 4, 10, .reg 1 .lsr 3⟩),
  (0xE055A277, .f32Sub ⟨14, true, 5, 10, .regShift 2 .ror 7⟩),
  (0xE273A4FF, .f32Rsb ⟨14, true, 3, 10, .imm 4 0xff⟩),
  (0xE074A0A3, .f32Rsb ⟨14, true, 4, 10, .reg 1 .lsr 3⟩),
  (0xE075A277, .f32Rsb ⟨14, true, 5, 10, .regShift 2 .ror 7⟩),
  (0xE293A4FF, .f32Add ⟨14, true, 3, 10, .imm 4 0xff⟩),
  (0xE094A0A3, .f32Add ⟨14, true, 4, 10, .reg 1 .lsr 3⟩),
  (0xE095A277, .f32Add ⟨14, true, 5, 10, .regShift 2 .ror 7⟩),
  (0xE2B3A4FF, .f32Adc ⟨14, true, 3, 10, .imm 4 0xff⟩),
  (0xE0B4A0A3, .f32Adc ⟨14, true, 4, 10, .reg 1 .lsr 3⟩),
  (0xE0B5A277, .f32Adc ⟨14, true, 5, 10, .regShift 2 .ror 7⟩),
  (0xE2D3A4FF, .f32Sbc ⟨14, true, 3, 10, .imm 4 0xff⟩),
  (0xE0D4A0A3, .f32Sbc ⟨14, true, 4, 10, .reg 1 .lsr 3⟩)]

theorem decode_f32WordsA : (f32WordsA.all fun p => decide (decodeF32 p.1 = some p.2)) = true := by decide

/-- F32 words of 96_test_vectors_instructions.md section 7.1, with the fields it lists: SBC to MOV. -/
def f32WordsB : List (Nat × Instr) := [
  (0xE0D5A277, .f32Sbc ⟨14, true, 5, 10, .regShift 2 .ror 7⟩),
  (0xE2F3A4FF, .f32Rsc ⟨14, true, 3, 10, .imm 4 0xff⟩),
  (0xE0F4A0A3, .f32Rsc ⟨14, true, 4, 10, .reg 1 .lsr 3⟩),
  (0xE0F5A277, .f32Rsc ⟨14, true, 5, 10, .regShift 2 .ror 7⟩),
  (0xE31304FF, .f32Tst ⟨14, 3, 0, .imm 4 0xff⟩),
  (0xE11400A3, .f32Tst ⟨14, 4, 0, .reg 1 .lsr 3⟩),
  (0xE1150277, .f32Tst ⟨14, 5, 0, .regShift 2 .ror 7⟩),
  (0xE33304FF, .f32Teq ⟨14, 3, 0, .imm 4 0xff⟩),
  (0xE13400A3, .f32Teq ⟨14, 4, 0, .reg 1 .lsr 3⟩),
  (0xE1350277, .f32Teq ⟨14, 5, 0, .regShift 2 .ror 7⟩),
  (0xE35304FF, .f32Cmp ⟨14, 3, 0, .imm 4 0xff⟩),
  (0xE15400A3, .f32Cmp ⟨14, 4, 0, .reg 1 .lsr 3⟩),
  (0xE1550277, .f32Cmp ⟨14, 5, 0, .regShift 2 .ror 7⟩),
  (0xE37304FF, .f32Cmn ⟨14, 3, 0, .imm 4 0xff⟩),
  (0xE17400A3, .f32Cmn ⟨14, 4, 0, .reg 1 .lsr 3⟩),
  (0xE1750277, .f32Cmn ⟨14, 5, 0, .regShift 2 .ror 7⟩),
  (0xE393A4FF, .f32Orr ⟨14, true, 3, 10, .imm 4 0xff⟩),
  (0xE194A0A3, .f32Orr ⟨14, true, 4, 10, .reg 1 .lsr 3⟩),
  (0xE195A277, .f32Orr ⟨14, true, 5, 10, .regShift 2 .ror 7⟩),
  (0xE3B0A4FF, .f32Mov ⟨14, true, 0, 10, .imm 4 0xff⟩)]

theorem decode_f32WordsB : (f32WordsB.all fun p => decide (decodeF32 p.1 = some p.2)) = true := by decide

/-- F32 words of 96_test_vectors_instructions.md section 7.1, with the fields it lists: MOV to BX. -/
def f32WordsC : List (Nat × Instr) := [
  (0xE1B0A0A3, .f32Mov ⟨14, true, 0, 10, .reg 1 .lsr 3⟩),
  (0xE1B0A277, .f32Mov ⟨14, true, 0, 10, .regShift 2 .ror 7⟩),
  (0xE3D3A4FF, .f32Bic ⟨14, true, 3, 10, .imm 4 0xff⟩),
  (0xE1D4A0A3, .f32Bic ⟨14, true, 4, 10, .reg 1 .lsr 3⟩),
  (0xE1D5A277, .f32Bic ⟨14, true, 5, 10, .regShift 2 .ror 7⟩),
  (0xE3F0A4FF, .f32Mvn ⟨14, true, 0, 10, .imm 4 0xff⟩),
  (0xE1F0A0A3, .f32Mvn ⟨14, true, 0, 10, .reg 1 .lsr 3⟩),
  (0xE1F0A277, .f32Mvn ⟨14, true, 0, 10, .regShift 2 .ror 7⟩),
  (0xE01A0997, .f32MulMul ⟨14, true, 10, 9, 7⟩),
  (0xE03A3997, .f32MlaMul ⟨14, true, 10, 3, 9, 7⟩),
  (0xE09BA593, .f32UmullMull ⟨14, true, 11, 10, 5, 3⟩),
  (0xE0BBA593, .f32UmlalMull ⟨14, true, 11, 10, 5, 3⟩),
  (0xE0DBA593, .f32SmullMull ⟨14, true, 11, 10, 5, 3⟩),
  (0xE0FBA593, .f32SmlalMull ⟨14, true, 11, 10, 5, 3⟩),
  (0xE101A097, .f32SwpSwp ⟨14, 1, 10, 7⟩),
  (0xE141A097, .f32SwpbSwp ⟨14, 1, 10, 7⟩),
  (0xE10FA000, .f32MrsMisc ⟨14, 10⟩),
  (0xE128F003, .f32MsrMisc ⟨14, 8, 3⟩),
  (0xE328F206, .f32MsrMsri ⟨14, 8, 2, 6⟩),
  (0xE12FFF1C, .f32BxMisc ⟨14, 12⟩)]

theorem decode_f32WordsC : (f32WordsC.all fun p => decide (decodeF32 p.1 = some p.2)) = true := by decide

/-- F32 words of 96_test_vectors_instructions.md section 7.1, with the fields it lists: BLX to STRT. -/
def f32WordsD : List (Nat × Instr) := [
  (0xE12FFF3C, .f32BlxMisc ⟨14, 12⟩),
  (0xE100A054, .f32QaddSat ⟨14, 0, 10, 4⟩),
  (0xE120A054, .f32QsubSat ⟨14, 0, 10, 4⟩),
  (0xE140A054, .f32QdaddSat ⟨14, 0, 10, 4⟩),
  (0xE160A054, .f32QdsubSat ⟨14, 0, 10, 4⟩),
  (0xE1C160B2, .f32StrhLshi ⟨14, true, true, false, 1, 6, 2⟩),
  (0xE1A160B2, .f32StrhLshr ⟨14, true, true, true, 1, 6, 2⟩),
  (0xE1C1A0D8, .f32LdrdLshi ⟨14, true, true, false, 1, 10, 8⟩),
  (0xE008A0D2, .f32LdrdLshr ⟨14, false, false, false, 8, 10, 2⟩),
  (0xE1C160F8, .f32StrdLshi ⟨14, true, true, false, 1, 6, 8⟩),
  (0xE00860F2, .f32StrdLshr ⟨14, false, false, false, 8, 6, 2⟩),
  (0xE1D1A0B2, .f32LdrhLshi ⟨14, true, true, false, 1, 10, 2⟩),
  (0xE1B1A0B2, .f32LdrhLshr ⟨14, true, true, true, 1, 10, 2⟩),
  (0xE1D1A0D3, .f32LdrsbLshi ⟨14, true, true, false, 1, 10, 3⟩),
  (0xE1B1A0D2, .f32LdrsbLshr ⟨14, true, true, true, 1, 10, 2⟩),
  (0xE1D1A0F2, .f32LdrshLshi ⟨14, true, true, false, 1, 10, 2⟩),
  (0xE1B1A0F2, .f32LdrshLshr ⟨14, true, true, true, 1, 10, 2⟩),
  (0xE5817004, .f32StrLsi ⟨14, true, true, false, 1, 7, 4⟩),
  (0xE6087102, .f32StrLsr ⟨14, false, false, false, 8, 7, 2, .lsl, 2⟩),
  (0xE4A17004, .f32StrtLsi ⟨14, true, 1, 7, 4⟩)]

theorem decode_f32WordsD : (f32WordsD.all fun p => decide (decodeF32 p.1 = some p.2)) = true := by decide

/-- F32 words of 96_test_vectors_instructions.md section 7.1, with the fields it lists: STRT to VSUB. -/
def f32WordsE : List (Nat × Instr) := [
  (0xE6287102, .f32StrtLsr ⟨14, false, 8, 7, 2, .lsl, 2⟩),
  (0xE591A004, .f32LdrLsi ⟨14, true, true, false, 1, 10, 4⟩),
  (0xE618A102, .f32LdrLsr ⟨14, false, false, false, 8, 10, 2, .lsl, 2⟩),
  (0xE4B1A004, .f32LdrtLsi ⟨14, true, 1, 10, 4⟩),
  (0xE638A102, .f32LdrtLsr ⟨14, false, 8, 10, 2, .lsl, 2⟩),
  (0xE5C17003, .f32StrbLsi ⟨14, true, true, false, 1, 7, 3⟩),
  (0xE6487102, .f32StrbLsr ⟨14, false, false, false, 8, 7, 2, .lsl, 2⟩),
  (0xE4E17003, .f32StrbtLsi ⟨14, true, 1, 7, 3⟩),
  (0xE6687102, .f32StrbtLsr ⟨14, false, 8, 7, 2, .lsl, 2⟩),
  (0xE5D1A003, .f32LdrbLsi ⟨14, true, true, false, 1, 10, 3⟩),
  (0xE658A102, .f32LdrbLsr ⟨14, false, false, false, 8, 10, 2, .lsl, 2⟩),
  (0xE4F1A003, .f32LdrbtLsi ⟨14, true, 1, 10, 3⟩),
  (0xE678A102, .f32LdrbtLsr ⟨14, false, 8, 10, 2, .lsl, 2⟩),
  (0xE92D4005, .f32StmLsm ⟨14, true, false, false, true, 13, 0x4005⟩),
  (0xE8BD8005, .f32LdmLsm ⟨14, false, true, false, true, 13, 0x8005⟩),
  (0xEA000006, .f32BBr ⟨14, 6⟩),
  (0xEBFFFFF0, .f32BlBr ⟨14, 0xfffff0⟩),
  (0xFB000002, .f32BlxBlxi ⟨true, 2⟩),
  (0xEE003A01, .f32VaddVop ⟨14, 0, 3, false, 0, 1⟩),
  (0xEE103A01, .f32VsubVop ⟨14, 0, 3, false, 0, 1⟩)]

theorem decode_f32WordsE : (f32WordsE.all fun p => decide (decodeF32 p.1 = some p.2)) = true := by decide

/-- F32 words of 96_test_vectors_instructions.md section 7.1, with the fields it lists: VQADD to VCEQ. -/
def f32WordsF : List (Nat × Instr) := [
  (0xEE203A01, .f32VqaddVop ⟨14, 0, 3, false, 0, 1⟩),
  (0xEE303A01, .f32VqsubVop ⟨14, 0, 3, false, 0, 1⟩),
  (0xEE403A22, .f32VshrVop ⟨14, 0, 3, false, 1, 2⟩),
  (0xEE503A22, .f32VrshrVop ⟨14, 0, 3, false, 1, 2⟩),
  (0xEE603A21, .f32VmullbVop ⟨14, 0, 3, false, 1, 1⟩),
  (0xEE703A21, .f32VmulltVop ⟨14, 0, 3, false, 1, 1⟩),
  (0xEE803A21, .f32VdotVop ⟨14, 0, 3, false, 1, 1⟩),
  (0xEE903A21, .f32VdotaVop ⟨14, 0, 3, false, 1, 1⟩),
  (0xEEA03A21, .f32VmulhVop ⟨14, 0, 3, false, 1, 1⟩),
  (0xEEB03A21, .f32VrmulhVop ⟨14, 0, 3, false, 1, 1⟩),
  (0xEEC03A21, .f32VpackVop ⟨14, 0, 3, false, 1, 1⟩),
  (0xEED03A21, .f32VqpackVop ⟨14, 0, 3, false, 1, 1⟩),
  (0xEEE03A00, .f32VunpkbVop ⟨14, 0, 3, false, 0, 0⟩),
  (0xEEF03A00, .f32VunpktVop ⟨14, 0, 3, false, 0, 0⟩),
  (0xEE003B01, .f32VzipbVop ⟨14, 0, 3, false, 0, 1⟩),
  (0xEE103B01, .f32VziptVop ⟨14, 0, 3, false, 0, 1⟩),
  (0xEE203B01, .f32VandVop ⟨14, 0, 3, false, 0, 1⟩),
  (0xEE303B01, .f32VorrVop ⟨14, 0, 3, false, 0, 1⟩),
  (0xEE403B01, .f32VeorVop ⟨14, 0, 3, false, 0, 1⟩),
  (0xEE503B01, .f32VceqVop ⟨14, 0, 3, false, 0, 1⟩)]

theorem decode_f32WordsF : (f32WordsF.all fun p => decide (decodeF32 p.1 = some p.2)) = true := by decide

/-- F32 words of 96_test_vectors_instructions.md section 7.1, with the fields it lists: VCGT to SYSR. -/
def f32WordsG : List (Nat × Instr) := [
  (0xEE603B01, .f32VcgtVop ⟨14, 0, 3, false, 0, 1⟩),
  (0xEE703B01, .f32VcgeVop ⟨14, 0, 3, false, 0, 1⟩),
  (0xEE843B45, .f32VfceqVop ⟨14, 4, 3, false, 2, 5⟩),
  (0xEE943B45, .f32VfcgeVop ⟨14, 4, 3, false, 2, 5⟩),
  (0xEEA43B45, .f32VfcgtVop ⟨14, 4, 3, false, 2, 5⟩),
  (0xEEB43B45, .f32VfacgeVop ⟨14, 4, 3, false, 2, 5⟩),
  (0xEEC43B45, .f32VfacgtVop ⟨14, 4, 3, false, 2, 5⟩),
  (0xEED40B45, .f32VfcmpVop ⟨14, 4, 0, false, 2, 5⟩),
  (0xEEE40B45, .f32VfcmpeVop ⟨14, 4, 0, false, 2, 5⟩),
  (0xEC430A09, .f32VmovtvVxfer ⟨14, 3, 0, 9⟩),
  (0xEC5BAA00, .f32VmovfvVxfer ⟨14, 11, 10, 0⟩),
  (0xEE026A10, .f32VmsrVctl ⟨14, 2, 6⟩),
  (0xEE10AA10, .f32VmrsVctl ⟨14, 0, 10⟩),
  (0xED810A02, .f32VstrVls ⟨14, true, true, false, 1, 0, 2⟩),
  (0xECB19A02, .f32VldrVls ⟨14, false, true, true, 1, 9, 2⟩),
  (0xEE01AF10, .f32SyswSys ⟨14, 0, 1, 10, 0, 0⟩),
  (0xEE11AF10, .f32SysrSys ⟨14, 0, 1, 10, 0, 0⟩)]

theorem decode_f32WordsG : (f32WordsG.all fun p => decide (decodeF32 p.1 = some p.2)) = true := by decide

/-- C16 words of 96_test_vectors_instructions.md section 7.3, with the fields it lists: LSLS to TST. -/
def c16WordsA : List (Nat × Instr) := [
  (0x0058, .c16LslsShi ⟨1, 3, 0⟩),
  (0x0818, .c16LsrsShi ⟨0, 3, 0⟩),
  (0x1018, .c16AsrsShi ⟨0, 3, 0⟩),
  (0x1918, .c16AddsAs3 ⟨4, 3, 0⟩),
  (0x1B80, .c16SubsAs3 ⟨6, 0, 0⟩),
  (0x1DE8, .c16AddsAs3i ⟨7, 5, 0⟩),
  (0x1E58, .c16SubsAs3i ⟨1, 3, 0⟩),
  (0x2000, .c16MovsI8 ⟨0, 0⟩),
  (0x2805, .c16CmpI8 ⟨0, 5⟩),
  (0x3401, .c16AddsI8 ⟨4, 1⟩),
  (0x3806, .c16SubsI8 ⟨0, 6⟩),
  (0x4013, .c16AndsAlu ⟨2, 3⟩),
  (0x4053, .c16EorsAlu ⟨2, 3⟩),
  (0x4093, .c16LslsAlu ⟨2, 3⟩),
  (0x40D3, .c16LsrsAlu ⟨2, 3⟩),
  (0x4113, .c16AsrsAlu ⟨2, 3⟩),
  (0x4153, .c16AdcsAlu ⟨2, 3⟩),
  (0x4193, .c16SbcsAlu ⟨2, 3⟩),
  (0x41D3, .c16RorsAlu ⟨2, 3⟩),
  (0x4213, .c16TstAlu ⟨2, 3⟩)]

theorem decode_c16WordsA : (c16WordsA.all fun p => decide (decodeC16 p.1 = some p.2)) = true := by decide

/-- C16 words of 96_test_vectors_instructions.md section 7.3, with the fields it lists: NEGS to LDRB. -/
def c16WordsB : List (Nat × Instr) := [
  (0x4253, .c16NegsAlu ⟨2, 3⟩),
  (0x4293, .c16CmpAlu ⟨2, 3⟩),
  (0x42D3, .c16CmnAlu ⟨2, 3⟩),
  (0x4313, .c16OrrsAlu ⟨2, 3⟩),
  (0x4353, .c16MulsAlu ⟨2, 3⟩),
  (0x4393, .c16BicsAlu ⟨2, 3⟩),
  (0x43D3, .c16MvnsAlu ⟨2, 3⟩),
  (0x4488, .c16AddHi ⟨1, 8⟩),
  (0x4588, .c16CmpHi ⟨1, 8⟩),
  (0x46EA, .c16MovHi ⟨13, 10⟩),
  (0x4770, .c16BxBx ⟨14⟩),
  (0x47E0, .c16BlxBx ⟨12⟩),
  (0x4802, .c16LdrLit ⟨0, 2⟩),
  (0x508F, .c16StrLsr ⟨2, 1, 7⟩),
  (0x528F, .c16StrhLsr ⟨2, 1, 7⟩),
  (0x540F, .c16StrbLsr ⟨0, 1, 7⟩),
  (0x5688, .c16LdrsbLsr ⟨2, 1, 0⟩),
  (0x5888, .c16LdrLsr ⟨2, 1, 0⟩),
  (0x5A88, .c16LdrhLsr ⟨2, 1, 0⟩),
  (0x5C08, .c16LdrbLsr ⟨0, 1, 0⟩)]

theorem decode_c16WordsB : (c16WordsB.all fun p => decide (decodeC16 p.1 = some p.2)) = true := by decide

/-- C16 words of 96_test_vectors_instructions.md section 7.3, with the fields it lists: LDRSH to B. -/
def c16WordsC : List (Nat × Instr) := [
  (0x5E88, .c16LdrshLsr ⟨2, 1, 0⟩),
  (0x604F, .c16StrLsi ⟨1, 1, 7⟩),
  (0x6848, .c16LdrLsi ⟨1, 1, 0⟩),
  (0x704F, .c16StrbLsi ⟨1, 1, 7⟩),
  (0x7848, .c16LdrbLsi ⟨1, 1, 0⟩),
  (0x804F, .c16StrhLsi ⟨1, 1, 7⟩),
  (0x8848, .c16LdrhLsi ⟨1, 1, 0⟩),
  (0x9701, .c16StrSpr ⟨7, 1⟩),
  (0x9801, .c16LdrSpr ⟨0, 1⟩),
  (0xA001, .c16AdrAdr ⟨0, 1⟩),
  (0xA802, .c16AddAdr ⟨0, 2⟩),
  (0xB004, .c16AddSpa ⟨4⟩),
  (0xB084, .c16SubSpa ⟨4⟩),
  (0xB503, .c16PushPp ⟨true, 3⟩),
  (0xBD03, .c16PopPp ⟨true, 3⟩),
  (0xBF00, .c16NopHint),
  (0xBF08, .c16ItIt ⟨0, 8⟩),
  (0xC181, .c16StmiaLsm ⟨1, 0x81⟩),
  (0xC90C, .c16LdmiaLsm ⟨1, 12⟩),
  (0xD204, .c16BBc ⟨2, 4⟩)]

theorem decode_c16WordsC : (c16WordsC.all fun p => decide (decodeC16 p.1 = some p.2)) = true := by decide

/-- C16 words of 96_test_vectors_instructions.md section 7.3, with the fields it lists: B to BL. -/
def c16WordsD : List (Nat × Instr) := [
  (0xE7FC, .c16BB ⟨0x7fc⟩),
  (0xE808, .c16BlxBl2 ⟨4⟩),
  (0xF001, .c16BlBl1 ⟨1⟩),
  (0xF808, .c16BlBl2 ⟨8⟩)]

theorem decode_c16WordsD : (c16WordsD.all fun p => decide (decodeC16 p.1 = some p.2)) = true := by decide

/-- W64 words of 96_test_vectors_instructions.md section 7.5, with the fields it lists: ADD to ADR. -/
def w64WordsA : List (Nat × Instr) := [
  (0x913FFC8C, .w64AddAsi ⟨true, false, 0xfff, 4, 12⟩),
  (0xB100048C, .w64AddsAsi ⟨true, false, 1, 4, 12⟩),
  (0xD10043FF, .w64SubAsi ⟨true, false, 0x10, 0x1f, 0x1f⟩),
  (0xF100141F, .w64SubsAsi ⟨true, false, 5, 0, 0x1f⟩),
  (0x8B02102C, .w64AddAsr ⟨true, .lsl, 2, 4, 1, 12⟩),
  (0x2B08010C, .w64AddsAsr ⟨false, .lsl, 8, 0, 8, 12⟩),
  (0xCB83FC0C, .w64SubAsr ⟨true, .asr, 3, 0x3f, 0, 12⟩),
  (0xEB06000C, .w64SubsAsr ⟨true, .lsl, 6, 0, 0, 12⟩),
  (0x8AC710AC, .w64AndLogr ⟨true, .ror, 7, 4, 5, 12⟩),
  (0x8AE710AC, .w64BicLogr ⟨true, .ror, 7, 4, 5, 12⟩),
  (0xAAC710AC, .w64OrrLogr ⟨true, .ror, 7, 4, 5, 12⟩),
  (0xAAE710AC, .w64OrnLogr ⟨true, .ror, 7, 4, 5, 12⟩),
  (0xCAC710AC, .w64EorLogr ⟨true, .ror, 7, 4, 5, 12⟩),
  (0xCAE710AC, .w64EonLogr ⟨true, .ror, 7, 4, 5, 12⟩),
  (0xEA03006C, .w64AndsLogr ⟨true, .lsl, 3, 0, 3, 12⟩),
  (0x6A2500AC, .w64BicsLogr ⟨false, .lsl, 5, 0, 5, 12⟩),
  (0x1280000C, .w64MovnMovw ⟨false, 0, 0, 12⟩),
  (0xD2F579AC, .w64MovzMovw ⟨true, 3, 0xabcd, 12⟩),
  (0xF2BFFFE7, .w64MovkMovw ⟨true, 1, 0xffff, 7⟩),
  (0x70FFFFEC, .w64AdrAdr ⟨0x1fffff, 12⟩)]

theorem decode_w64WordsA : (w64WordsA.all fun p => decide (decodeW64 p.1 = some p.2)) = true := by decide

/-- W64 words of 96_test_vectors_instructions.md section 7.5, with the fields it lists: ADRP to ASRV. -/
def w64WordsB : List (Nat × Instr) := [
  (0xB000000C, .w64AdrpAdr ⟨1, 12⟩),
  (0x14000004, .w64BBi ⟨4⟩),
  (0x97FFFFFC, .w64BlBi ⟨0x3fffffc⟩),
  (0x54000102, .w64BcondBc ⟨8, 2⟩),
  (0x34000108, .w64CbzCb ⟨false, 8, 8⟩),
  (0xB5FFFFE0, .w64CbnzCb ⟨true, 0x7ffff, 0⟩),
  (0xB6F80044, .w64TbzTb ⟨0x3f, 2, 4⟩),
  (0x3707FFE6, .w64TbnzTb ⟨0, 0x3fff, 6⟩),
  (0xD61F03C0, .w64BrBreg ⟨0x1e⟩),
  (0xD63F0020, .w64BlrBreg ⟨1⟩),
  (0xD65F03C0, .w64RetBreg ⟨0x1e⟩),
  (0x9A81000C, .w64CselCsel ⟨true, 1, 0, 0, 12⟩),
  (0x9A9F07EC, .w64CsincCsel ⟨true, 0x1f, 0, 0x1f, 12⟩),
  (0x5A80302C, .w64CsinvCsel ⟨false, 0, 3, 1, 12⟩),
  (0xDA80342C, .w64CsnegCsel ⟨true, 0, 3, 1, 12⟩),
  (0x9AC908EC, .w64UdivDp2 ⟨true, 9, 7, 12⟩),
  (0x9AC50D0C, .w64SdivDp2 ⟨true, 5, 8, 12⟩),
  (0x9AC220CC, .w64LslvDp2 ⟨true, 2, 6, 12⟩),
  (0x1AC6250C, .w64LsrvDp2 ⟨false, 6, 8, 12⟩),
  (0x9AC6286C, .w64AsrvDp2 ⟨true, 6, 3, 12⟩)]

theorem decode_w64WordsB : (w64WordsB.all fun p => decide (decodeW64 p.1 = some p.2)) = true := by decide

/-- W64 words of 96_test_vectors_instructions.md section 7.5, with the fields it lists: RORV to LDRSBW. -/
def w64WordsC : List (Nat × Instr) := [
  (0x9AC22CEC, .w64RorvDp2 ⟨true, 2, 7, 12⟩),
  (0x9B0900EC, .w64MaddDp3 ⟨true, 9, 0, 7, 12⟩),
  (0x1B09FC0C, .w64MsubDp3 ⟨false, 9, 0x1f, 0, 12⟩),
  (0x9B25010C, .w64SmaddlDp3 ⟨5, 0, 8, 12⟩),
  (0x9B25810C, .w64SmsublDp3 ⟨5, 0, 8, 12⟩),
  (0x9B43006C, .w64SmulhDp3 ⟨3, 3, 12⟩),
  (0x9BA5010C, .w64UmaddlDp3 ⟨5, 0, 8, 12⟩),
  (0x9BA5810C, .w64UmsublDp3 ⟨5, 0, 8, 12⟩),
  (0x9BC500AC, .w64UmulhDp3 ⟨5, 5, 12⟩),
  (0x39000C27, .w64Strb ⟨1, 7, .unsigned 3⟩),
  (0x38008427, .w64Strb ⟨1, 7, .signed 8 1⟩),
  (0x38226827, .w64Strb ⟨1, 7, .reg 2 3 false⟩),
  (0x39400C2C, .w64Ldrb ⟨1, 12, .unsigned 3⟩),
  (0x385FFC2C, .w64Ldrb ⟨1, 12, .signed 0x1ff 3⟩),
  (0x3862682C, .w64Ldrb ⟨1, 12, .reg 2 3 false⟩),
  (0x39800C2C, .w64Ldrsb ⟨1, 12, .unsigned 3⟩),
  (0x389FFC2C, .w64Ldrsb ⟨1, 12, .signed 0x1ff 3⟩),
  (0x38A2682C, .w64Ldrsb ⟨1, 12, .reg 2 3 false⟩),
  (0x39C00C2C, .w64Ldrsbw ⟨1, 12, .unsigned 3⟩),
  (0x38DFFC2C, .w64Ldrsbw ⟨1, 12, .signed 0x1ff 3⟩)]

theorem decode_w64WordsC : (w64WordsC.all fun p => decide (decodeW64 p.1 = some p.2)) = true := by decide

/-- W64 words of 96_test_vectors_instructions.md section 7.5, with the fields it lists: LDRSBW to LDRSW. -/
def w64WordsD : List (Nat × Instr) := [
  (0x38E2682C, .w64Ldrsbw ⟨1, 12, .reg 2 3 false⟩),
  (0x79000427, .w64Strh ⟨1, 7, .unsigned 1⟩),
  (0x78008427, .w64Strh ⟨1, 7, .signed 8 1⟩),
  (0x78226827, .w64Strh ⟨1, 7, .reg 2 3 false⟩),
  (0x7940042C, .w64Ldrh ⟨1, 12, .unsigned 1⟩),
  (0x785FEC2C, .w64Ldrh ⟨1, 12, .signed 0x1fe 3⟩),
  (0x7862682C, .w64Ldrh ⟨1, 12, .reg 2 3 false⟩),
  (0x7980042C, .w64Ldrsh ⟨1, 12, .unsigned 1⟩),
  (0x789FEC2C, .w64Ldrsh ⟨1, 12, .signed 0x1fe 3⟩),
  (0x78A2682C, .w64Ldrsh ⟨1, 12, .reg 2 3 false⟩),
  (0x79C0042C, .w64Ldrshw ⟨1, 12, .unsigned 1⟩),
  (0x78DFEC2C, .w64Ldrshw ⟨1, 12, .signed 0x1fe 3⟩),
  (0x78E2682C, .w64Ldrshw ⟨1, 12, .reg 2 3 false⟩),
  (0xB9000427, .w64Strw ⟨1, 7, .unsigned 1⟩),
  (0xB8008427, .w64Strw ⟨1, 7, .signed 8 1⟩),
  (0xB8226827, .w64Strw ⟨1, 7, .reg 2 3 false⟩),
  (0xB940042C, .w64Ldrw ⟨1, 12, .unsigned 1⟩),
  (0xB85FCC2C, .w64Ldrw ⟨1, 12, .signed 0x1fc 3⟩),
  (0xB862682C, .w64Ldrw ⟨1, 12, .reg 2 3 false⟩),
  (0xB980042C, .w64Ldrsw ⟨1, 12, .unsigned 1⟩)]

theorem decode_w64WordsD : (w64WordsD.all fun p => decide (decodeW64 p.1 = some p.2)) = true := by decide

/-- W64 words of 96_test_vectors_instructions.md section 7.5, with the fields it lists: LDRSW to MSR. -/
def w64WordsE : List (Nat × Instr) := [
  (0xB89FCC2C, .w64Ldrsw ⟨1, 12, .signed 0x1fc 3⟩),
  (0xB8A2682C, .w64Ldrsw ⟨1, 12, .reg 2 3 false⟩),
  (0xF9000427, .w64Strx ⟨1, 7, .unsigned 1⟩),
  (0xF8008427, .w64Strx ⟨1, 7, .signed 8 1⟩),
  (0xF8226827, .w64Strx ⟨1, 7, .reg 2 3 false⟩),
  (0xF940042C, .w64Ldrx ⟨1, 12, .unsigned 1⟩),
  (0xF85F8C2C, .w64Ldrx ⟨1, 12, .signed 0x1f8 3⟩),
  (0xF862682C, .w64Ldrx ⟨1, 12, .reg 2 3 false⟩),
  (0x1800008C, .w64LdrwLit ⟨4, 12⟩),
  (0x5800008C, .w64LdrxLit ⟨4, 12⟩),
  (0x9800008C, .w64LdrswLit ⟨4, 12⟩),
  (0xA9BF7BE0, .w64StpLsp ⟨true, 3, 0x7e, 0x1e, 0x1f, 0⟩),
  (0xA8C137EC, .w64LdpLsp ⟨true, 1, 2, 13, 0x1f, 12⟩),
  (0xD503201F, .w64NopSys),
  (0xD53B420C, .w64MrsSys ⟨12⟩),
  (0xD51B4208, .w64MsrSys ⟨8⟩)]

theorem decode_w64WordsE : (w64WordsE.all fun p => decide (decodeW64 p.1 = some p.2)) = true := by decide

end Sys2Proof
end

