-- ==== Sys2Proof/Machine/Block.lean ====
section
/-! DEFINITION. Translation blocks: the decode context, when a block ends, its exit and its metadata
(49_block_control.md R600 to R613). Blocks are architecturally invisible (R612): nothing here touches a register,
a flag or memory. -/

namespace Sys2Proof.Machine

/-- How an instruction's rule can write `pc` (R603 (d), (e), R607): not at all; to an immediate offset without a mode
change; the same behind its own test, with the test's outcome; to a register or memory target or with a mode
change. -/
inductive Jump where
  | none
  | direct
  | tested (taken : Bool)
  | indirect
deriving DecidableEq, Repr

/-- `pc` is the destination: a register or memory target. -/
def Jump.ofPc (isPc : Bool) : Jump := if isPc then .indirect else .none

/-- What the block rules need to know about an instruction's word: the condition field of F32 (`1110` elsewhere), how
its rule can write `pc`, whether it writes the sampled context (R603 (f)). -/
structure Shape where
  cond : Cond
  jump : Jump
  context : Bool
deriving DecidableEq, Repr

/-- An instruction with condition `c` that neither writes `pc` nor the sampled context. -/
def Shape.plain (c : Cond) : Shape := ⟨c, .none, false⟩

/-- A branch of some kind. -/
def Shape.branch (c : Cond) (j : Jump) : Shape := ⟨c, j, false⟩

/-- The register of a `CBZ` or `CBNZ` read at its width is zero (48_w64.md R540). -/
def State.cbZero (s : State) (f : W64.CB) : Bool :=
  if f.sf then s.getX f.rt == 0 else (s.getX f.rt).setWidth 32 == 0#32

/-- The bit a `TBZ` or `TBNZ` tests (48_w64.md R542). -/
def State.tbBit (s : State) (f : W64.TB) : Bool := (s.getX f.rt).getLsbD f.bit.toNat

/-- The shape of every instruction, read from its fields (R603, R607); `s` is the state before it, for the tests of the
conditional branches. -/
def shapeOf (s : State) : Instr → Shape
  | .f32And f => .branch f.cond (.ofPc (f.rd == 15))
  | .f32Eor f => .branch f.cond (.ofPc (f.rd == 15))
  | .f32Sub f => .branch f.cond (.ofPc (f.rd == 15))
  | .f32Rsb f => .branch f.cond (.ofPc (f.rd == 15))
  | .f32Add f => .branch f.cond (.ofPc (f.rd == 15))
  | .f32Adc f => .branch f.cond (.ofPc (f.rd == 15))
  | .f32Sbc f => .branch f.cond (.ofPc (f.rd == 15))
  | .f32Rsc f => .branch f.cond (.ofPc (f.rd == 15))
  | .f32Tst f => .plain f.cond
  | .f32Teq f => .plain f.cond
  | .f32Cmp f => .plain f.cond
  | .f32Cmn f => .plain f.cond
  | .f32Orr f => .branch f.cond (.ofPc (f.rd == 15))
  | .f32Mov f => .branch f.cond (.ofPc (f.rd == 15))
  | .f32Bic f => .branch f.cond (.ofPc (f.rd == 15))
  | .f32Mvn f => .branch f.cond (.ofPc (f.rd == 15))
  | .f32MulMul f => .plain f.cond
  | .f32MlaMul f => .plain f.cond
  | .f32UmullMull f => .plain f.cond
  | .f32UmlalMull f => .plain f.cond
  | .f32SmullMull f => .plain f.cond
  | .f32SmlalMull f => .plain f.cond
  | .f32SwpSwp f => .plain f.cond
  | .f32SwpbSwp f => .plain f.cond
  | .f32MrsMisc f => .plain f.cond
  | .f32MsrMisc f => .plain f.cond
  | .f32MsrMsri f => .plain f.cond
  | .f32BxMisc f => .branch f.cond .indirect
  | .f32BlxMisc f => .branch f.cond .indirect
  | .f32QaddSat f => .plain f.cond
  | .f32QsubSat f => .plain f.cond
  | .f32QdaddSat f => .plain f.cond
  | .f32QdsubSat f => .plain f.cond
  | .f32StrhLshi f => .plain f.cond
  | .f32StrhLshr f => .plain f.cond
  | .f32LdrdLshi f => .plain f.cond
  | .f32LdrdLshr f => .plain f.cond
  | .f32StrdLshi f => .plain f.cond
  | .f32StrdLshr f => .plain f.cond
  | .f32LdrhLshi f => .plain f.cond
  | .f32LdrhLshr f => .plain f.cond
  | .f32LdrsbLshi f => .plain f.cond
  | .f32LdrsbLshr f => .plain f.cond
  | .f32LdrshLshi f => .plain f.cond
  | .f32LdrshLshr f => .plain f.cond
  | .f32StrLsi f => .plain f.cond
  | .f32StrLsr f => .plain f.cond
  | .f32StrtLsi f => .plain f.cond
  | .f32StrtLsr f => .plain f.cond
  | .f32LdrLsi f => .branch f.cond (.ofPc (f.rd == 15))
  | .f32LdrLsr f => .branch f.cond (.ofPc (f.rd == 15))
  | .f32LdrtLsi f => .plain f.cond
  | .f32LdrtLsr f => .plain f.cond
  | .f32StrbLsi f => .plain f.cond
  | .f32StrbLsr f => .plain f.cond
  | .f32StrbtLsi f => .plain f.cond
  | .f32StrbtLsr f => .plain f.cond
  | .f32LdrbLsi f => .plain f.cond
  | .f32LdrbLsr f => .plain f.cond
  | .f32LdrbtLsi f => .plain f.cond
  | .f32LdrbtLsr f => .plain f.cond
  | .f32StmLsm f => .plain f.cond
  | .f32LdmLsm f => .branch f.cond (.ofPc f.reglist[15])
  | .f32BBr f => .branch f.cond .direct
  | .f32BlBr f => .branch f.cond .direct
  | .f32BlxBlxi _ => .branch 14 .indirect
  | .f32VaddVop f => .plain f.cond
  | .f32VsubVop f => .plain f.cond
  | .f32VqaddVop f => .plain f.cond
  | .f32VqsubVop f => .plain f.cond
  | .f32VshrVop f => .plain f.cond
  | .f32VrshrVop f => .plain f.cond
  | .f32VmullbVop f => .plain f.cond
  | .f32VmulltVop f => .plain f.cond
  | .f32VdotVop f => .plain f.cond
  | .f32VdotaVop f => .plain f.cond
  | .f32VmulhVop f => .plain f.cond
  | .f32VrmulhVop f => .plain f.cond
  | .f32VpackVop f => .plain f.cond
  | .f32VqpackVop f => .plain f.cond
  | .f32VunpkbVop f => .plain f.cond
  | .f32VunpktVop f => .plain f.cond
  | .f32VzipbVop f => .plain f.cond
  | .f32VziptVop f => .plain f.cond
  | .f32VandVop f => .plain f.cond
  | .f32VorrVop f => .plain f.cond
  | .f32VeorVop f => .plain f.cond
  | .f32VceqVop f => .plain f.cond
  | .f32VcgtVop f => .plain f.cond
  | .f32VcgeVop f => .plain f.cond
  | .f32VfceqVop f => .plain f.cond
  | .f32VfcgeVop f => .plain f.cond
  | .f32VfcgtVop f => .plain f.cond
  | .f32VfacgeVop f => .plain f.cond
  | .f32VfacgtVop f => .plain f.cond
  | .f32VfcmpVop f => .plain f.cond
  | .f32VfcmpeVop f => .plain f.cond
  | .f32VmovtvVxfer f => .plain f.cond
  | .f32VmovfvVxfer f => .plain f.cond
  | .f32VmsrVctl f => ⟨f.cond, .none, true⟩
  | .f32VmrsVctl f => .plain f.cond
  | .f32VstrVls f => .plain f.cond
  | .f32VldrVls f => .plain f.cond
  | .f32SyswSys f => ⟨f.cond, .none, true⟩
  | .f32SysrSys f => .plain f.cond
  | .c16LslsShi _ => .plain 14
  | .c16LsrsShi _ => .plain 14
  | .c16AsrsShi _ => .plain 14
  | .c16AddsAs3 _ => .plain 14
  | .c16SubsAs3 _ => .plain 14
  | .c16AddsAs3i _ => .plain 14
  | .c16SubsAs3i _ => .plain 14
  | .c16MovsI8 _ => .plain 14
  | .c16CmpI8 _ => .plain 14
  | .c16AddsI8 _ => .plain 14
  | .c16SubsI8 _ => .plain 14
  | .c16AndsAlu _ => .plain 14
  | .c16EorsAlu _ => .plain 14
  | .c16LslsAlu _ => .plain 14
  | .c16LsrsAlu _ => .plain 14
  | .c16AsrsAlu _ => .plain 14
  | .c16AdcsAlu _ => .plain 14
  | .c16SbcsAlu _ => .plain 14
  | .c16RorsAlu _ => .plain 14
  | .c16TstAlu _ => .plain 14
  | .c16NegsAlu _ => .plain 14
  | .c16CmpAlu _ => .plain 14
  | .c16CmnAlu _ => .plain 14
  | .c16OrrsAlu _ => .plain 14
  | .c16MulsAlu _ => .plain 14
  | .c16BicsAlu _ => .plain 14
  | .c16MvnsAlu _ => .plain 14
  | .c16AddHi f => .branch 14 (.ofPc (f.d == 15))
  | .c16CmpHi _ => .plain 14
  | .c16MovHi f => .branch 14 (.ofPc (f.d == 15))
  | .c16BxBx _ => .branch 14 .indirect
  | .c16BlxBx _ => .branch 14 .indirect
  | .c16LdrLit _ => .plain 14
  | .c16StrLsr _ => .plain 14
  | .c16StrhLsr _ => .plain 14
  | .c16StrbLsr _ => .plain 14
  | .c16LdrsbLsr _ => .plain 14
  | .c16LdrLsr _ => .plain 14
  | .c16LdrhLsr _ => .plain 14
  | .c16LdrbLsr _ => .plain 14
  | .c16LdrshLsr _ => .plain 14
  | .c16StrLsi _ => .plain 14
  | .c16LdrLsi _ => .plain 14
  | .c16StrbLsi _ => .plain 14
  | .c16LdrbLsi _ => .plain 14
  | .c16StrhLsi _ => .plain 14
  | .c16LdrhLsi _ => .plain 14
  | .c16StrSpr _ => .plain 14
  | .c16LdrSpr _ => .plain 14
  | .c16AdrAdr _ => .plain 14
  | .c16AddAdr _ => .plain 14
  | .c16AddSpa _ => .plain 14
  | .c16SubSpa _ => .plain 14
  | .c16PushPp _ => .plain 14
  | .c16PopPp f => .branch 14 (.ofPc f.r)
  | .c16NopHint => .plain 14
  | .c16ItIt _ => .plain 14
  | .c16StmiaLsm _ => .plain 14
  | .c16LdmiaLsm _ => .plain 14
  | .c16BBc f => .branch 14 (.tested (s.flags.condPassed f.cond))
  | .c16BB _ => .branch 14 .direct
  | .c16BlxBl2 _ => .branch 14 .indirect
  | .c16BlBl1 _ => .plain 14
  | .c16BlBl2 _ => .branch 14 .direct
  | .w64AddAsi _ => .plain 14
  | .w64AddsAsi _ => .plain 14
  | .w64SubAsi _ => .plain 14
  | .w64SubsAsi _ => .plain 14
  | .w64AddAsr _ => .plain 14
  | .w64AddsAsr _ => .plain 14
  | .w64SubAsr _ => .plain 14
  | .w64SubsAsr _ => .plain 14
  | .w64AndLogr _ => .plain 14
  | .w64BicLogr _ => .plain 14
  | .w64OrrLogr _ => .plain 14
  | .w64OrnLogr _ => .plain 14
  | .w64EorLogr _ => .plain 14
  | .w64EonLogr _ => .plain 14
  | .w64AndsLogr _ => .plain 14
  | .w64BicsLogr _ => .plain 14
  | .w64MovnMovw _ => .plain 14
  | .w64MovzMovw _ => .plain 14
  | .w64MovkMovw _ => .plain 14
  | .w64AdrAdr _ => .plain 14
  | .w64AdrpAdr _ => .plain 14
  | .w64BBi _ => .branch 14 .direct
  | .w64BlBi _ => .branch 14 .direct
  | .w64BcondBc f => .branch 14 (.tested (s.flags.condPassed f.cond))
  | .w64CbzCb f => .branch 14 (.tested (s.cbZero f))
  | .w64CbnzCb f => .branch 14 (.tested (!s.cbZero f))
  | .w64TbzTb f => .branch 14 (.tested (!s.tbBit f))
  | .w64TbnzTb f => .branch 14 (.tested (s.tbBit f))
  | .w64BrBreg _ => .branch 14 .indirect
  | .w64BlrBreg _ => .branch 14 .indirect
  | .w64RetBreg _ => .branch 14 .indirect
  | .w64CselCsel _ => .plain 14
  | .w64CsincCsel _ => .plain 14
  | .w64CsinvCsel _ => .plain 14
  | .w64CsnegCsel _ => .plain 14
  | .w64UdivDp2 _ => .plain 14
  | .w64SdivDp2 _ => .plain 14
  | .w64LslvDp2 _ => .plain 14
  | .w64LsrvDp2 _ => .plain 14
  | .w64AsrvDp2 _ => .plain 14
  | .w64RorvDp2 _ => .plain 14
  | .w64MaddDp3 _ => .plain 14
  | .w64MsubDp3 _ => .plain 14
  | .w64SmaddlDp3 _ => .plain 14
  | .w64SmsublDp3 _ => .plain 14
  | .w64SmulhDp3 _ => .plain 14
  | .w64UmaddlDp3 _ => .plain 14
  | .w64UmsublDp3 _ => .plain 14
  | .w64UmulhDp3 _ => .plain 14
  | .w64Strb _ => .plain 14
  | .w64Ldrb _ => .plain 14
  | .w64Ldrsb _ => .plain 14
  | .w64Ldrsbw _ => .plain 14
  | .w64Strh _ => .plain 14
  | .w64Ldrh _ => .plain 14
  | .w64Ldrsh _ => .plain 14
  | .w64Ldrshw _ => .plain 14
  | .w64Strw _ => .plain 14
  | .w64Ldrw _ => .plain 14
  | .w64Ldrsw _ => .plain 14
  | .w64Strx _ => .plain 14
  | .w64Ldrx _ => .plain 14
  | .w64LdrwLit _ => .plain 14
  | .w64LdrxLit _ => .plain 14
  | .w64LdrswLit _ => .plain 14
  | .w64StpLsp _ => .plain 14
  | .w64LdpLsp _ => .plain 14
  | .w64NopSys => .plain 14
  | .w64MrsSys _ => .plain 14
  | .w64MsrSys _ => .plain 14

/-- One instruction as the block rules see it: its length, the outcome of its guard if it is guarded (R605), how it can
write `pc`, whether it writes the sampled context, and whether it waits for the lock (20_memory.md R90). -/
structure Item where
  len : Nat
  guard : Option Bool
  jump : Jump
  context : Bool
  waits : Bool
deriving DecidableEq, Repr

/-- `IT` is not guarded (R605). -/
def isIt : Instr → Bool
  | .c16ItIt _ => true
  | _ => false

/-- The guard of an F32 instruction with condition `c` (R605). -/
def State.guardF (s : State) (c : Cond) : Option Bool := if c = 14 then none else some (s.flags.condPassed c)

/-- The guard of an instruction (R605). -/
def guardOf (i : Instr) (s : State) : Option Bool :=
  match s.mode with
  | .f32 => s.guardF (shapeOf s i).cond
  | .c16 => if s.inGroup && !isIt i then some s.slotPassed else none
  | .w64 => none

/-- A swap that executes while another context holds the lock waits for it. -/
def waitsForLock (i : Instr) (s : State) : Bool :=
  match i with
  | .f32SwpSwp f => s.flags.condPassed f.cond && s.lock == .held && f.rd != 15 && f.rm != 15 && f.rn != 15
  | .f32SwpbSwp f => s.flags.condPassed f.cond && s.lock == .held && f.rd != 15 && f.rm != 15 && f.rn != 15
  | _ => false

/-- A classified instruction. -/
def itemOf (i : Instr) (s : State) : Item :=
  ⟨s.mode.instrBytes, guardOf i s, (shapeOf s i).jump, (shapeOf s i).context, waitsForLock i s⟩

/-- An unclassified pattern behind the guard `g`. -/
def Item.unclassified (s : State) (g : Option Bool) : Item := ⟨s.mode.instrBytes, g, .none, false, false⟩

/-- The instruction's effect happens: it is not guarded or its test passes. -/
def Item.executed (q : Item) : Bool := q.guard != some false

/-! ### The open block (R600 to R605) -/

/-- Sampling at the start of a block (R601). -/
def State.sample (s : State) : Context where
  pc := s.pc
  reason := .none
  skip := false
  skipTarget := none
  mode := s.mode
  priv := s.priv
  en := s.vstat.en
  len := s.vstat.len
  stride := s.vstat.stride
  itstate := s.itstate
  start := s.pc
  count := 0
  bytes := 0

/-- A new block starts where none is open (R604). -/
def State.openBlock (s : State) : State :=
  match s.ctx with
  | some _ => s
  | none => { s with ctx := some s.sample }

/-- The address of the next instruction of length `len`, around the top of the space of the mode (10_state.md R26,
R29). -/
def State.nextAddr (s : State) (len : Nat) : DWord :=
  match s.mode with
  | .f32 | .c16 => (s.ia32 + BitVec.ofNat 32 len).setWidth 64
  | .w64 => s.pc + BitVec.ofNat 64 len

/-- *Conditionally-Skipped*: `skip` and `skip_target` while a guarded instruction is decoded (R602, R605). -/
def State.enterGuard (s : State) (q : Item) : State :=
  match s.ctx with
  | none => s
  | some c =>
    { s with ctx := some { c with
        skip := q.guard.isSome
        skipTarget := q.guard.map fun _ => s.nextAddr q.len } }

/-- The block is over: its context is discarded and its exit handed to the environment (R600, R607, R608). -/
def State.closeBlock (s : State) (c : Context) (reason : Reason) (exit : ExitKind) : State :=
  { s with ctx := none, lastExit := some ⟨reason, exit, c.start, c.count, c.bytes⟩ }

/-- The context after a completed instruction: *Decoding* again, one instruction more (R602, R604). -/
def Context.advance (c : Context) (t : State) (len : Nat) : Context :=
  { c with pc := t.pc, itstate := t.itstate, skip := false, skipTarget := none, count := c.count + 1,
           bytes := c.bytes + len }

/-- The page of an address (R603 (i)). -/
def pageOf (p : Params) (a : DWord) : Nat := a.toNat / p.pageSize

/-- Why the block ends after a completed instruction, `none` if it goes on: the checks (d) to (i) of R603 in their
order. -/
def endReason (q : Item) (t : State) (c : Context) : Reason :=
  match q.jump, q.guard with
  | .tested _, _ => .condBranch
  | .direct, some _ => .condBranch
  | .indirect, some _ => .condBranch
  | .direct, none => .branch
  | .indirect, none => .branch
  | .none, _ =>
    if q.context && q.executed then .contextWrite
    else if t.env.singleStep then .singleStep
    else if c.count = t.cfg.maxBlockInsns then .maxInsns
    else if pageOf t.cfg t.pc ≠ pageOf t.cfg c.start then .page
    else .none

/-- `DirectLinkAllowed(start, target)` (00_scope.md R10). -/
def linkAllowed (p : Params) (start target : DWord) : Bool :=
  match p.linkPolicy with
  | .samePage => pageOf p start == pageOf p target
  | .always => true
  | .never => false
  | .pairs l => l.contains (start, target)

/-- The exit kind (R607). Under `SINGLE_STEP` every block exits by `GenericExit` (R610), also one whose reason R603's
order makes a branch: R607's link for a direct branch and R610's exit for every block meet there, no ruling settles
it, and following R610 is the model's reading (DEDUCED, log entry 25). -/
def exitKind (q : Item) (t : State) (c : Context) (reason : Reason) : ExitKind :=
  if t.env.singleStep then .generic
  else
    match reason with
    | .page | .maxInsns => .directLink t.pc
    | .branch | .condBranch =>
      let link (taken : Bool) : ExitKind :=
        if taken && !linkAllowed t.cfg c.start t.pc then .generic else .directLink t.pc
      match q.jump with
      | .direct => link q.executed
      | .tested b => link (q.executed && b)
      | .indirect | .none => .generic
    | .none | .singleStep | .contextWrite | .exception => .generic

/-- The bookkeeping after one instruction, from the open context `c` before it and the state `t` it left
(R603, R604): an instruction that raised ends the block and is not counted; one that waits for the lock has not
completed. -/
def State.account (t : State) (q : Item) (c : Context) : State :=
  match t.raised with
  | some _ => t.closeBlock c .exception .generic
  | none =>
    if q.waits then { t with ctx := some { c with skip := false, skipTarget := none } }
    else
      let d := c.advance t q.len
      match endReason q t d with
      | .none => { t with ctx := some d }
      | r => t.closeBlock d r (exitKind q t d r)

/-- The same, from the state before the instruction. -/
def State.accountFrom (s : State) (q : Item) (t : State) : State :=
  match s.ctx with
  | none => t
  | some c => t.account q c

end Sys2Proof.Machine
end

