-- ==== Sys2Proof/Machine/Fetch.lean ====
section
/-! DEFINITION. Fetching one instruction: the breakpoint check, the fetch request, the unclassified patterns
(20_memory.md R74, 30_encoding.md R100 to R103, R130, 60_exceptions.md R632 to R634, R638), and placing a word where
the next step fetches. -/

namespace Sys2Proof.Machine

/-- The address space of the current mode (20_memory.md R75). -/
def State.space (s : State) : Space :=
  match s.mode with
  | .f32 | .c16 => .narrow
  | .w64 => .wide

/-- What the fetch at `pc` gives. -/
inductive Fetched where
  | debug
  | abort
  | word (w : Nat)
deriving DecidableEq, Repr

/-- The breakpoint check comes first, then the fetch request of the mode's instruction length (60_exceptions.md R638,
20_memory.md R74). -/
def State.fetch (s : State) : Fetched :=
  if s.pc ∈ s.env.breakpoints then .debug
  else if s.aborts .fetch s.pc s.mode.instrBytes s.priv then .abort
  else .word (Memory.load s.mem s.cfg.endian s.space.bits s.pc.toNat s.mode.instrBytes)

/-- The guard before an unclassified pattern: the condition field of an F32 word outside the `1111` space, the slot of a
C16 group (49_block_control.md R605). -/
def State.guardUnclassified (s : State) (w : Nat) : Option Bool :=
  match s.mode with
  | .f32 => if fld w 28 4 = 15 then none else s.guardF (BitVec.ofNat 4 (fld w 28 4))
  | .c16 => if s.inGroup then some s.slotPassed else none
  | .w64 => none

/-- A skipped instruction: `pc <- next`, and in C16 the advance of the group (30_encoding.md R103,
47_c16_compact.md R442). -/
def State.skip (s : State) : State :=
  match s.mode with
  | .f32 => s.next4
  | .c16 => s.finish2
  | .w64 => s.nextW

/-- An unclassified pattern raises `Undefined` unless its guard fails (60_exceptions.md R632 (a), R638). -/
def State.unclassified (s : State) (w : Nat) : State :=
  if s.guardUnclassified w = some false then s.skip else s.undef

/-- An outcome whose next state is changed by `f`. -/
def onNext (o : Host.Outcome State Fault Refusal) (f : State → State) : Host.Outcome State Fault Refusal :=
  match o with
  | .next t => .next (f t)
  | .fault r => .fault r
  | .refused r => .refused r

/-- The longest instruction, in bytes. -/
def longestInstr : Nat := 4

/-- `w`, and zeros above its `nbits` bits, stored at `pc` in the byte order of the machine: an instruction of 16 bits
takes the first two bytes, one of 32 bits takes all four. -/
def State.placeWord (s : State) (nbits w : Nat) : State :=
  let n := (tableWordMode nbits w).instrBytes
  let bits := (match tableWordMode nbits w with
    | .f32 | .c16 => Space.narrow
    | .w64 => Space.wide).bits
  let a := s.pc.toNat
  let m := Memory.store s.mem s.cfg.endian bits ((a + n) % 2 ^ bits) (longestInstr - n) 0
  { s with mem := Memory.store m s.cfg.endian bits a n w }

/-- Nothing stands between the next step and the fetch at `pc` in mode `m`: no pending raise, no open block, no
breakpoint there, no rule that refuses the request, no group active. -/
def State.readyToFetch (s : State) (m : Mode) : State :=
  { s with
    mode := m
    itstate := 0
    ctx := none
    raised := none
    env := { s.env with
      breakpoints := s.env.breakpoints.filter fun a => a ≠ s.pc
      abortRules := s.env.abortRules.filter fun q => !q.refuses .fetch s.pc m.instrBytes s.priv } }

end Sys2Proof.Machine
end

