-- ==== Sys2Proof/Machine/Step.lean ====
section
/-! DEFINITION. One step: delivery of a pending raise, or one instruction inside its block
(49_block_control.md R604, 60_exceptions.md R637, R638). -/

namespace Sys2Proof.Machine

/-- A classified instruction is run by `exec`; the block bookkeeping stands around it. -/
def State.runInstr (s : State) (i : Instr) : Host.Outcome State Fault Refusal :=
  let q := itemOf i s
  onNext (exec i (s.enterGuard q)) (s.accountFrom q)

/-- An unclassified pattern. -/
def State.runUnclassified (s : State) (w : Nat) : State :=
  let q := Item.unclassified s (s.guardUnclassified w)
  s.accountFrom q ((s.enterGuard q).unclassified w)

/-- The bits fetched, decoded by the decoder of the current mode. -/
def State.runWord (s : State) (w : Nat) : Host.Outcome State Fault Refusal :=
  match decodeWord s.mode w with
  | .ok i => s.runInstr i
  | .error _ => .next (s.runUnclassified w)

/-- One iteration of the loop of R604. -/
def State.runOne (s : State) : Host.Outcome State Fault Refusal :=
  match s.fetch with
  | .debug => .next (s.accountFrom (Item.unclassified s none) s.debug)
  | .abort => .next (s.accountFrom (Item.unclassified s none) s.fetchAbort)
  | .word w => s.runWord w

/-- A step with the environment's `ExceptionDelivery`: a pending raise is delivered, or one instruction is run; a block
is opened where none is open. -/
def stepWith (delivery : Raise → State → Option State) (s : State) : Host.Outcome State Fault Refusal :=
  match s.raised with
  | some r =>
    match State.deliver delivery s r with
    | some t => .next t
    | none => .fault (.halted r.cause)
  | none => s.openBlock.runOne

/-- A step with the default delivery, `Halt` (60_exceptions.md R637). -/
def step (s : State) : Host.Outcome State Fault Refusal := stepWith haltDelivery s

/-- `s` with one table row's instruction placed where `step` fetches next, in the mode that decodes it
(assumption log 10). -/
def State.withFetchWord (s : State) (nbits w : Nat) : State :=
  (s.readyToFetch (tableWordMode nbits w)).placeWord nbits w

end Sys2Proof.Machine
end

