-- ==== Sys2Proof/Safety.lean ====
section
/-! DEFINITION. What a well-kept state is, and the arithmetic vocabulary the claims use: each written from the spec's
words and not over the machine's own operations. -/

namespace Sys2Proof.Machine

/-! ### The invariant of a run -/

/-- The alignment of an instruction address (10_state.md R28). -/
def pcAlign : Mode → Nat
  | .f32 => 4
  | .c16 => 2
  | .w64 => 4

/-- An open block's context equals the live state (49_block_control.md R601), no guard is pending between instructions
(R602), the block has room left (R603 (h)), lies in the page of its start (R603 (i)), and is the contiguous run of
`bytes` bytes from `start` to `pc` (R608). -/
structure Context.Agrees (c : Context) (s : State) : Prop where
  pc : c.pc = s.pc
  mode : c.mode = s.mode
  priv : c.priv = s.priv
  en : c.en = s.vstat.en
  len : c.len = s.vstat.len
  stride : c.stride = s.vstat.stride
  itstate : c.itstate = s.itstate
  reason : c.reason = .none
  skip : c.skip = false
  skipTarget : c.skipTarget = none
  room : c.count < s.cfg.maxBlockInsns
  page : pageOf s.cfg s.pc = pageOf s.cfg c.start
  run : (c.start.toNat + c.bytes) % 2 ^ s.space.bits = s.pc.toNat

/-- The invariant every step keeps. -/
structure State.Inv (s : State) : Prop where
  /-- Memory is in canonical form. -/
  mem : Memory.wf s.mem = true
  /-- `pc` is aligned for its mode (10_state.md R28). -/
  aligned : s.pc.toNat % pcAlign s.mode = 0
  /-- `pc` has 32 bits in the 32-bit modes (10_state.md R25). -/
  narrow : s.mode ≠ .w64 → s.pc.toNat < 2 ^ 32
  /-- The mode is W64 if and only if `RESET_MODE` is (10_state.md R37). -/
  wide : s.mode = .w64 ↔ s.cfg.resetMode = .w64
  /-- `itstate` is 0 outside C16 (10_state.md R39). -/
  outside : s.mode ≠ .c16 → s.itstate = 0
  /-- `itstate` is 0 where no group is active (47_c16_compact.md R443). -/
  idle : s.itstate.extractLsb' 0 4 = 0 → s.itstate = 0
  /-- A block may hold an instruction (00_scope.md R10). -/
  room : 1 ≤ s.cfg.maxBlockInsns
  /-- The decode context agrees with the state (49_block_control.md R601). -/
  ctx : ∀ c, s.ctx = some c → c.Agrees s

/-- The architectural state: everything but the block bookkeeping (49_block_control.md R612). -/
def State.arch (s : State) : State := { s with ctx := none, lastExit := none }

/-- The same machine at another place in its blocks and with other block parameters (49_block_control.md R612). -/
def State.reblock (s : State) (c : Option Context) (e : Option BlockExit) (page max : Nat) (l : LinkPolicy)
    (single : Bool) : State :=
  { s with
    ctx := c
    lastExit := e
    cfg := { s.cfg with pageSize := page, maxBlockInsns := max, linkPolicy := l }
    env := { s.env with singleStep := single } }

/-! ### Sums and differences, by exact integers -/

/-- `x - y - b` as a bit pattern. -/
def diffBits {w : Nat} (x y : BitVec w) (b : Nat) : BitVec w := BitVec.ofInt w (x.toNat - y.toNat - b)

/-- `x + y + c` as a bit pattern. -/
def sumBits {w : Nat} (x y : BitVec w) (c : Nat) : BitVec w := BitVec.ofInt w (x.toNat + y.toNat + c)

/-- The flags of `x + y + c`: `C` when the unsigned sum does not fit, `V` when the signed sum does not. -/
def sumFlags {w : Nat} (f : Flags) (x y : BitVec w) (c : Nat) : Flags :=
  { f with
    n := (sumBits x y c).msb
    z := decide (sumBits x y c = 0)
    c := decide (2 ^ w ≤ x.toNat + y.toNat + c)
    v := decide ((sumBits x y c).toInt ≠ x.toInt + y.toInt + c) }

/-- The flags of `x - y - b`: `C` when there is no borrow, `V` when the signed difference does not fit. -/
def diffFlags {w : Nat} (f : Flags) (x y : BitVec w) (b : Nat) : Flags :=
  { f with
    n := (diffBits x y b).msb
    z := decide (diffBits x y b = 0)
    c := decide (y.toNat + b ≤ x.toNat)
    v := decide ((diffBits x y b).toInt ≠ x.toInt - y.toInt - b) }

/-- The flags of a logical result: `C` given, `V` kept. -/
def bitFlags {w : Nat} (f : Flags) (res : BitVec w) (c : Bool) : Flags :=
  { f with n := res.msb, z := decide (res = 0), c := c }

/-- The value nearest to `v` in the signed 32-bit range. -/
def saturate32 (v : Int) : Int := max (-2 ^ 31) (min v (2 ^ 31 - 1))

/-- `v` lies in the signed 32-bit range. -/
def fits32 (v : Int) : Bool := decide (-2 ^ 31 ≤ v ∧ v < 2 ^ 31)

/-! ### Memory as a function of the address -/

/-- The bytes after the low `n` bytes of `v` are stored at `a` over the bytes `g` (20_memory.md R76, R83): the byte at
distance `d` above `a`, around the top of the space, holds byte `d` (little) or `n - 1 - d` (big) of `v`. -/
def storedOver (g : Nat → Byte) (e : Endian) (bits a n v : Nat) (x : Nat) : Byte :=
  let d := (x + 2 ^ bits - a) % 2 ^ bits
  if x < 2 ^ bits ∧ d < n then
    BitVec.ofNat 8 (v / 256 ^ (match e with
      | .little => d
      | .big => n - 1 - d))
  else g x

/-- The bytes after words are stored at rising addresses from `a` (42_addressing_modes.md R227). -/
def storedWords (g : Nat → Byte) (e : Endian) (a : Word) : List Word → Nat → Byte
  | [] => g
  | v :: vs => storedWords (storedOver g e 32 a.toNat 4 v.toNat) e (a + 4) vs

/-- The memory `m` reads as `g` at every address. -/
def ReadsAs (m : List Host.Cell) (g : Nat → Byte) : Prop := ∀ x, Memory.get m x = g x

/-- The value of the `n` bytes at `a` (20_memory.md R76). -/
def bytesAt (m : List Host.Cell) (e : Endian) (bits a n : Nat) : Nat :=
  match e with
  | .little => ((List.range n).map fun i => (Memory.get m ((a + i) % 2 ^ bits)).toNat * 256 ^ i).sum
  | .big => ((List.range n).map fun i => (Memory.get m ((a + i) % 2 ^ bits)).toNat * 256 ^ (n - 1 - i)).sum

/-- A 32-bit mode reads `n` bytes at `a`. -/
def State.narrowAt (s : State) (a : Word) (n : Nat) : Nat := bytesAt s.mem s.cfg.endian 32 a.toNat n

/-- W64 reads `n` bytes at `a`. -/
def State.wideAt (s : State) (a : DWord) (n : Nat) : Nat := bytesAt s.mem s.cfg.endian 64 a.toNat n

/-- The port answers a read of the 32-bit modes. -/
def State.canRead32 (s : State) (acc : Priv) (a : Word) (n : Nat) : Prop := s.aborts .read (a.setWidth 64) n acc = false

/-- The port answers a write of the 32-bit modes. -/
def State.canWrite32 (s : State) (acc : Priv) (a : Word) (n : Nat) : Prop :=
  s.aborts .write (a.setWidth 64) n acc = false

/-- The port answers a read of W64. -/
def State.canRead64 (s : State) (a : DWord) (n : Nat) : Prop := s.aborts .read a n s.priv = false

/-- The port answers a write of W64. -/
def State.canWrite64 (s : State) (a : DWord) (n : Nat) : Prop := s.aborts .write a n s.priv = false

/-! ### Lists of registers -/

/-- How many listed registers lie below `i` (42_addressing_modes.md R227). -/
def rankIn (l : BitVec 16) (i : Nat) : Nat := ((List.range i).filter fun j => l.getLsbD j).length

/-- The number of listed registers. -/
def listSize (l : BitVec 16) : Nat := rankIn l 16

/-- The address of listed register `i`. -/
def slotAddr (l : BitVec 16) (start : Word) (i : Nat) : Word := start + BitVec.ofNat 32 (4 * rankIn l i)

/-- The lowest address of a multiple transfer of `n` registers (42_addressing_modes.md R226). -/
def multiStart (base : Word) (n : Nat) (p u : Bool) : Word :=
  BitVec.ofInt 32 (base.toNat + (if u then (if p then 4 else 0) else (if p then -(4 * n) else 4 - 4 * n : Int)))

/-- The base after a multiple transfer (42_addressing_modes.md R226). -/
def multiBase (base : Word) (n : Nat) (u : Bool) : Word :=
  BitVec.ofInt 32 (base.toNat + (if u then (4 * n : Int) else -(4 * n)))

/-- The listed registers in ascending order. -/
def listed (l : BitVec 16) : List (Fin 16) := (List.finRange 16).filter fun i => l.getLsbD i.val

/-! ### Lanes -/

/-- The range of a lane (41_lane_semantics.md R184). -/
def laneLo (w : Nat) (signed : Bool) : Int := if signed then -2 ^ (w - 1) else 0

def laneHi (w : Nat) (signed : Bool) : Int := if signed then 2 ^ (w - 1) - 1 else 2 ^ w - 1

/-- The value nearest to `v` in the range of a lane. -/
def nearest (w : Nat) (signed : Bool) (v : Int) : Int := max (laneLo w signed) (min v (laneHi w signed))

/-- `v` lies outside the range of a lane. -/
def overflows (w : Nat) (signed : Bool) (v : Int) : Bool := decide (v < laneLo w signed ∨ laneHi w signed < v)

/-- The vector unit answers lane operations (46_vector_instructions.md R381). -/
def State.lanesOn (s : State) : Prop := s.vstat.en = true ∧ s.vstat.len = 0 ∧ s.vstat.stride = 0

/-- Lane `j` of the register a field names. -/
def State.laneOf (s : State) (i : Fin 16) (w j : Nat) : Nat := lane (s.getV i) w j

/-- The exact value of lane `j` of the register a field names. -/
def State.laneInt (s : State) (i : Fin 16) (w : Nat) (signed : Bool) (j : Nat) : Int :=
  laneVal w signed (s.laneOf i w j)

/-- The value of a finite floating-point number (41_lane_semantics.md R200): single with bias 127, double with bias
1023. -/
def floatRat (w x : Nat) : ℚ :=
  let fb := fracBits w
  let bias : Int := if w = 32 then 127 else 1023
  let e := x / 2 ^ fb % 2 ^ (w - 1 - fb)
  let m : ℚ := if e = 0 then (x % 2 ^ fb : Nat) else ((x % 2 ^ fb : Nat) : ℚ) + 2 ^ fb
  (if x / 2 ^ (w - 1) % 2 = 1 then -1 else 1) * m * (2 : ℚ) ^ (((max e 1 : Nat) : Int) - bias - fb)

/-- Neither infinity nor NaN: the exponent is not all ones. -/
def isFinite (w x : Nat) : Bool := x / 2 ^ fracBits w % 2 ^ (w - 1 - fracBits w) != 2 ^ (w - 1 - fracBits w) - 1

/-! ### When an instruction executes -/

/-- A register-shifted operand names no register 15 (43_f32_data_processing.md R251 (b)). -/
def op2Clear (o : F32.Op2) (rn rd : Fin 16) : Prop :=
  match o with
  | .regShift rs _ rm => rn ≠ 15 ∧ rd ≠ 15 ∧ rs ≠ 15 ∧ rm ≠ 15
  | _ => True

/-- The twelve F32 opcodes that write `Rd`. -/
def dpWriters : List (F32.DP → Instr) :=
  [.f32And, .f32Eor, .f32Sub, .f32Rsb, .f32Add, .f32Adc, .f32Sbc, .f32Rsc, .f32Orr, .f32Mov, .f32Bic, .f32Mvn]

/-- The four F32 compare opcodes. -/
def dpCompares : List (F32.DPC → Instr) := [.f32Tst, .f32Teq, .f32Cmp, .f32Cmn]

/-- The thirty-one lane operations (46_vector_instructions.md R381). -/
def laneOps : List (F32.VOP → Instr) :=
  [.f32VaddVop, .f32VsubVop, .f32VqaddVop, .f32VqsubVop, .f32VshrVop, .f32VrshrVop, .f32VmullbVop, .f32VmulltVop,
   .f32VdotVop, .f32VdotaVop, .f32VmulhVop, .f32VrmulhVop, .f32VpackVop, .f32VqpackVop, .f32VunpkbVop, .f32VunpktVop,
   .f32VzipbVop, .f32VziptVop, .f32VandVop, .f32VorrVop, .f32VeorVop, .f32VceqVop, .f32VcgtVop, .f32VcgeVop,
   .f32VfceqVop, .f32VfcgeVop, .f32VfcgtVop, .f32VfacgeVop, .f32VfacgtVop, .f32VfcmpVop, .f32VfcmpeVop]

/-- The condition of an F32 instruction holds (30_encoding.md R103). -/
def State.passes (s : State) (c : Cond) : Prop := s.flags.condPassed c = true

/-- The slot of a C16 instruction passes, or no group is active (47_c16_compact.md R442). -/
def State.slotRuns (s : State) : Prop := s.slotPassed = true

/-- The flags of an `S` form: those of the result outside a group, unchanged inside (47_c16_compact.md R444 (a)). -/
def State.flagsS (s : State) (f : Flags) : Flags := if s.itstate.extractLsb' 0 4 = 0 then f else s.flags

/-- The low register's value. -/
def State.lo (s : State) (i : Fin 8) : Word := s.r[i.val]

/-- The width `sf` selects (48_w64.md R512). -/
def widthOf (sf : Bool) : Nat := if sf then 64 else 32

/-- A 64-bit result at the width `sf` selects, zero-extended (48_w64.md R512). -/
def atW (sf : Bool) (v : DWord) : DWord := if sf then v else (v.setWidth 32).setWidth 64

/-- The shifted register operand, zero-extended (48_w64.md R513). -/
def shiftedW (sf : Bool) (k : ShiftKind) (v : DWord) (n : Nat) : DWord :=
  if sf then
    match k with
    | .lsl => v <<< n
    | .lsr => v >>> n
    | .asr => BitVec.ofInt 64 (v.toInt / 2 ^ n)
    | .ror => (v >>> n) ||| (v <<< (64 - n))
  else
    let u : Word := v.setWidth 32
    (match k with
    | .lsl => u <<< n
    | .lsr => u >>> n
    | .asr => BitVec.ofInt 32 (u.toInt / 2 ^ n)
    | .ror => (u >>> n) ||| (u <<< (32 - n))).setWidth 64

/-- The flags of `x + y` at the width `sf` selects. -/
def sumFlagsW (sf : Bool) (f : Flags) (x y : DWord) : Flags :=
  if sf then sumFlags f x y 0 else sumFlags f (x.setWidth 32) (y.setWidth 32) 0

/-- The flags of `x - y` at the width `sf` selects. -/
def diffFlagsW (sf : Bool) (f : Flags) (x y : DWord) : Flags :=
  if sf then diffFlags f x y 0 else diffFlags f (x.setWidth 32) (y.setWidth 32) 0

/-- The flags of a W64 logical result: `C` and `V` clear (48_w64.md R514). -/
def bitFlagsW (sf : Bool) (f : Flags) (v : DWord) : Flags :=
  { f with
    n := v.getLsbD (widthOf sf - 1)
    z := decide (v.toNat % 2 ^ widthOf sf = 0)
    c := false
    v := false }

/-- The signed or unsigned reading of a register at the width `sf` selects. -/
def intW (sf signed : Bool) (v : DWord) : Int :=
  match sf, signed with
  | true, true => v.toInt
  | true, false => v.toNat
  | false, true => (v.setWidth 32).toInt
  | false, false => (v.setWidth 32).toNat

/-- An exact integer reduced to the width `sf` selects, zero-extended. -/
def ofIntW (sf : Bool) (v : Int) : DWord := BitVec.ofInt 64 (v % 2 ^ widthOf sf)

/-! ### Addresses -/

/-- `n` added or subtracted, as the bit `u` says (42_addressing_modes.md R222). -/
def signedBy (u : Bool) (n : Nat) : Int := if u then n else -n

/-- An access at `base + off`, or at `base` itself when the offset is applied after it; and the sum as the new base
(42_addressing_modes.md R221). -/
def offsetFrom {w : Nat} (base : BitVec w) (off : Int) (index wback : Bool) : Resolved w :=
  let sum : BitVec w := BitVec.ofInt w (base.toNat + off)
  ⟨if index then sum else base, if wback then some sum else none⟩

/-- The address form of an F32 single-register access: its base register, whether its offset register is 15, its
offset, and when it indexes and writes back (42_addressing_modes.md R222, R223). -/
def AddressesAs (a : SingleAddr) (s : State) (rn : Fin 16) (rmIs15 : Bool) (off : Int) (index wback : Bool) : Prop :=
  a.rn = rn ∧ a.rmIs15 = rmIs15 ∧ a.wback = wback ∧ a.resolve s = offsetFrom (s.rF rn) off index wback

/-! ### Shapes of loads and stores -/

/-- `n` bytes read as a signed number. -/
def signedBytes (w n v : Nat) : BitVec w := BitVec.ofInt w (if v < 2 ^ (8 * n - 1) then v else v - 2 ^ (8 * n))

/-- A single-register load of F32 completes: base, register, `pc` (44_f32_load_store.md R300). -/
def LoadsAs (i : Instr) (s : State) (a : SingleAddr) (acc : Priv) (n : Nat) (ext : Nat → Word) (rd : Fin 16) : Prop :=
  a.rmIs15 = false → (a.wback = true → a.rn ≠ 15) → rd ≠ 15 → s.canRead32 acc (a.resolve s).address n →
    exec i s = .next (((s.writeBack32 a.rn (a.resolve s).newBase).setR rd
      (ext (s.narrowAt (a.resolve s).address n))).next4)

/-- A single-register store of F32 completes: the bytes, the base, `pc`; no other byte changes
(44_f32_load_store.md R300). -/
def StoresAs (i : Instr) (s : State) (a : SingleAddr) (acc : Priv) (n : Nat) (v : Word) : Prop :=
  Memory.wf s.mem = true → a.rmIs15 = false → (a.wback = true → a.rn ≠ 15) →
  s.canWrite32 acc (a.resolve s).address n →
    ∃ m, exec i s = .next ((State.writeBack32 { s with mem := m } a.rn (a.resolve s).newBase).next4) ∧
      ReadsAs m (storedOver (Memory.get s.mem) s.cfg.endian 32 (a.resolve s).address.toNat n v.toNat)

/-- `LDRD` completes: both words, base, the two registers, `pc` (44_f32_load_store.md R310). -/
def LoadsPair (i : Instr) (s : State) (a : SingleAddr) (rd : Fin 16) : Prop :=
  a.rmIs15 = false → (a.wback = true → a.rn ≠ 15) → s.canRead32 s.priv (a.resolve s).address 4 →
  s.canRead32 s.priv ((a.resolve s).address + 4) 4 →
    exec i s = .next (((s.writeBack32 a.rn (a.resolve s).newBase).setR rd
      (BitVec.ofNat 32 (s.narrowAt (a.resolve s).address 4))).setR (rd + 1)
      (BitVec.ofNat 32 (s.narrowAt ((a.resolve s).address + 4) 4))).next4

/-- `STRD` completes: both words, the base, `pc`; no other byte changes (44_f32_load_store.md R311). -/
def StoresPair (i : Instr) (s : State) (a : SingleAddr) (rd : Fin 16) : Prop :=
  Memory.wf s.mem = true → a.rmIs15 = false → (a.wback = true → a.rn ≠ 15) →
  s.canWrite32 s.priv (a.resolve s).address 4 → s.canWrite32 s.priv ((a.resolve s).address + 4) 4 →
    ∃ m, exec i s = .next (State.writeBack32 { s with mem := m } a.rn (a.resolve s).newBase).next4 ∧
      ReadsAs m (storedWords (Memory.get s.mem) s.cfg.endian (a.resolve s).address [s.rF rd, s.rF (rd + 1)])

/-- A C16 load completes (47_c16_compact.md section 5). -/
def LoadsC16 (i : Instr) (s : State) (addr : Word) (n : Nat) (ext : Nat → Word) (rd : Fin 8) : Prop :=
  s.slotRuns → s.canRead32 s.priv addr n → exec i s = .next ((s.setR (low rd) (ext (s.narrowAt addr n))).finish2)

/-- A C16 store completes: no other byte changes (47_c16_compact.md section 5). -/
def StoresC16 (i : Instr) (s : State) (addr : Word) (n : Nat) (rd : Fin 8) : Prop :=
  Memory.wf s.mem = true → s.slotRuns → s.canWrite32 s.priv addr n →
    ∃ m, exec i s = .next (State.finish2 { s with mem := m }) ∧
      ReadsAs m (storedOver (Memory.get s.mem) s.cfg.endian 32 addr.toNat n (s.lo rd).toNat)

/-- A single-register load of W64 completes: base, register, `pc` (48_w64.md R565). -/
def LoadsW64 (i : Instr) (s : State) (k : Nat) (ext : Nat → DWord) (f : W64.LS) : Prop :=
  s.canRead64 (w64Addr k f s).address (2 ^ k) →
    exec i s = .next (((s.writeBackX f.rn (w64Addr k f s).newBase).setX f.rt
      (ext (s.wideAt (w64Addr k f s).address (2 ^ k)))).nextW)

/-- A single-register store of W64 completes: no other byte changes (48_w64.md R565). -/
def StoresW64 (i : Instr) (s : State) (k : Nat) (f : W64.LS) : Prop :=
  Memory.wf s.mem = true → s.canWrite64 (w64Addr k f s).address (2 ^ k) →
    ∃ m, exec i s = .next ((State.writeBackX { s with mem := m } f.rn (w64Addr k f s).newBase).nextW) ∧
      ReadsAs m (storedOver (Memory.get s.mem) s.cfg.endian 64 (w64Addr k f s).address.toNat (2 ^ k)
        (s.getX f.rt).toNat)

/-! ### The data requests of an instruction -/

/-- A data request: the accessor, the address, the size, and for a write its value (20_memory.md R70, R72). -/
structure Request where
  acc : Priv
  addr : DWord
  size : Nat
  written : Option Nat
deriving DecidableEq, Repr

/-- A read of the 32-bit modes. -/
def Request.read32 (acc : Priv) (a : Word) (n : Nat) : Request := ⟨acc, a.setWidth 64, n, none⟩

/-- A write of the 32-bit modes. -/
def Request.write32 (acc : Priv) (a : Word) (n : Nat) (v : Word) : Request := ⟨acc, a.setWidth 64, n, some v.toNat⟩

/-- What a raise hands over of a request (60_exceptions.md R635). -/
def Request.access (q : Request) : Access := ⟨q.addr, q.written.isSome, q.size⟩

/-- The port's answer to a request is `abort` (20_memory.md R73, R79). -/
def State.refuses (s : State) (q : Request) : Bool :=
  s.aborts (if q.written.isSome then .write else .read) q.addr q.size q.acc

/-- The bytes after the writes among some requests, in their order, over the bytes `g`. -/
def writtenOver (e : Endian) (bits : Nat) (g : Nat → Byte) (qs : List Request) : Nat → Byte :=
  qs.foldl (fun g q => match q.written with
    | none => g
    | some v => storedOver g e bits q.addr.toNat q.size v) g

/-- The width of the addresses of an instruction (20_memory.md R75). -/
def addrBits (i : Instr) : Nat := if i.mode = .w64 then 64 else 32

/-- What a store of register `i` writes (44_f32_load_store.md R301). -/
def State.storedF (s : State) (i : Fin 16) : Word := if i = 15 then s.ia32 + s.cfg.pcStoreOffset.toWord else s.rF i

/-- No check of R300 refuses the address (44_f32_load_store.md R300). -/
def SingleAddr.legal (a : SingleAddr) : Bool := !a.rmIs15 && (!a.wback || a.rn != 15)

/-- The words of a multiple transfer at rising addresses from `start` (42_addressing_modes.md R227). -/
def State.readsFrom (s : State) (l : BitVec 16) (start : Word) : List Request :=
  (listed l).map fun i : Fin 16 => .read32 s.priv (slotAddr l start i) 4

def State.writesFrom (s : State) (l : BitVec 16) (start : Word) (v : Fin 16 → Word) : List Request :=
  (listed l).map fun i : Fin 16 => .write32 s.priv (slotAddr l start i) 4 (v i)

/-- An `LDM` or `STM` of a legal form (44_f32_load_store.md R320, decision D22). -/
def State.multiLegal (s : State) (f : F32.LSM) (isLoad : Bool) : Bool :=
  f.rn != 15 && f.reglist != 0 && (!f.s || (s.priv == .privileged && !f.w && !(isLoad && f.reglist[15])))

/-- The requests of an F32 instruction: none if its condition fails or its form raises `Undefined`. -/
def State.f32Requests (s : State) (c : Cond) (legal : Bool) (qs : List Request) : List Request :=
  if s.flags.condPassed c && legal then qs else []

/-- The requests of a C16 instruction: none if its slot fails or it raises `Undefined`. -/
def State.c16Requests (s : State) (legal : Bool) (qs : List Request) : List Request :=
  if s.slotPassed && legal then qs else []

/-- A load of one F32 register; only the word forms accept register 15 (44_f32_load_store.md R300). -/
def State.oneRead (s : State) (c : Cond) (a : SingleAddr) (acc : Priv) (n : Nat) (rd : Fin 16) (pc : Bool) :
    List Request :=
  s.f32Requests c (a.legal && (pc || rd != 15)) [.read32 acc (a.resolve s).address n]

/-- A store of one F32 register. -/
def State.oneWrite (s : State) (c : Cond) (a : SingleAddr) (acc : Priv) (n : Nat) (rd : Fin 16) (pc : Bool) :
    List Request :=
  s.f32Requests c (a.legal && (pc || rd != 15)) [.write32 acc (a.resolve s).address n (s.storedF rd)]

/-- `LDRD`: two words (44_f32_load_store.md R310). -/
def State.twoReads (s : State) (c : Cond) (a : SingleAddr) (rd : Fin 16) : List Request :=
  s.f32Requests c (a.legal && rd.val % 2 == 0 && rd != 14)
    [.read32 s.priv (a.resolve s).address 4, .read32 s.priv ((a.resolve s).address + 4) 4]

/-- `STRD`: two words (44_f32_load_store.md R311). -/
def State.twoWrites (s : State) (c : Cond) (a : SingleAddr) (rd : Fin 16) : List Request :=
  s.f32Requests c (a.legal && rd.val % 2 == 0 && rd != 14)
    [.write32 s.priv (a.resolve s).address 4 (s.rF rd), .write32 s.priv ((a.resolve s).address + 4) 4 (s.rF (rd + 1))]

/-- A swap that has the lock: the read, then the write (44_f32_load_store.md R330). -/
def State.swapRequests (s : State) (f : F32.SWP) (n : Nat) : List Request :=
  s.f32Requests f.cond (f.rd != 15 && f.rm != 15 && f.rn != 15 && s.lock == .free)
    [.read32 s.priv (s.rF f.rn) n, .write32 s.priv (s.rF f.rn) n (s.rF f.rm)]

/-- The two requests of a W64 pair (48_w64.md R580, R581). -/
def State.pairRequests (s : State) (f : W64.LSP) (v1 v2 : Option Nat) : List Request :=
  let a := (pairAddr f s).address
  let n := if f.sf then 8 else 4
  [⟨s.priv, a, n, v1⟩, ⟨s.priv, a + BitVec.ofNat 64 n, n, v2⟩]

/-- The data requests that an instruction issues, in their order, as long as the port answers them (20_memory.md R84,
R85); every other instruction issues none. -/
def requests (i : Instr) (s : State) : List Request :=
  match i with
  | .f32LdrLsi f => s.oneRead f.cond (addrLsi f) s.priv 4 f.rd true
  | .f32StrLsi f => s.oneWrite f.cond (addrLsi f) s.priv 4 f.rd true
  | .f32LdrbLsi f => s.oneRead f.cond (addrLsi f) s.priv 1 f.rd false
  | .f32StrbLsi f => s.oneWrite f.cond (addrLsi f) s.priv 1 f.rd false
  | .f32LdrLsr f => s.oneRead f.cond (addrLsr f s) s.priv 4 f.rd true
  | .f32StrLsr f => s.oneWrite f.cond (addrLsr f s) s.priv 4 f.rd true
  | .f32LdrbLsr f => s.oneRead f.cond (addrLsr f s) s.priv 1 f.rd false
  | .f32StrbLsr f => s.oneWrite f.cond (addrLsr f s) s.priv 1 f.rd false
  | .f32LdrtLsi f => s.oneRead f.cond (addrLsit f) .user 4 f.rd false
  | .f32StrtLsi f => s.oneWrite f.cond (addrLsit f) .user 4 f.rd false
  | .f32LdrbtLsi f => s.oneRead f.cond (addrLsit f) .user 1 f.rd false
  | .f32StrbtLsi f => s.oneWrite f.cond (addrLsit f) .user 1 f.rd false
  | .f32LdrtLsr f => s.oneRead f.cond (addrLsrt f s) .user 4 f.rd false
  | .f32StrtLsr f => s.oneWrite f.cond (addrLsrt f s) .user 4 f.rd false
  | .f32LdrbtLsr f => s.oneRead f.cond (addrLsrt f s) .user 1 f.rd false
  | .f32StrbtLsr f => s.oneWrite f.cond (addrLsrt f s) .user 1 f.rd false
  | .f32LdrhLshi f => s.oneRead f.cond (addrLshi f) s.priv 2 f.rd false
  | .f32StrhLshi f => s.oneWrite f.cond (addrLshi f) s.priv 2 f.rd false
  | .f32LdrsbLshi f => s.oneRead f.cond (addrLshi f) s.priv 1 f.rd false
  | .f32LdrshLshi f => s.oneRead f.cond (addrLshi f) s.priv 2 f.rd false
  | .f32LdrdLshi f => s.twoReads f.cond (addrLshi f) f.rd
  | .f32StrdLshi f => s.twoWrites f.cond (addrLshi f) f.rd
  | .f32LdrhLshr f => s.oneRead f.cond (addrLshr f s) s.priv 2 f.rd false
  | .f32StrhLshr f => s.oneWrite f.cond (addrLshr f s) s.priv 2 f.rd false
  | .f32LdrsbLshr f => s.oneRead f.cond (addrLshr f s) s.priv 1 f.rd false
  | .f32LdrshLshr f => s.oneRead f.cond (addrLshr f s) s.priv 2 f.rd false
  | .f32LdrdLshr f => s.twoReads f.cond (addrLshr f s) f.rd
  | .f32StrdLshr f => s.twoWrites f.cond (addrLshr f s) f.rd
  | .f32LdmLsm f => s.f32Requests f.cond (s.multiLegal f true)
      (s.readsFrom f.reglist (multiStart (s.rF f.rn) (listSize f.reglist) f.p f.u))
  | .f32StmLsm f => s.f32Requests f.cond (s.multiLegal f false)
      (s.writesFrom f.reglist (multiStart (s.rF f.rn) (listSize f.reglist) f.p f.u) s.storedF)
  | .f32SwpSwp f => s.swapRequests f 4
  | .f32SwpbSwp f => s.swapRequests f 1
  | .f32VldrVls f => s.f32Requests f.cond (s.vstat.en && !(f.w && f.rn == 15)) [.read32 s.priv (vlsAddr f s).address 8]
  | .f32VstrVls f => s.f32Requests f.cond (s.vstat.en && !(f.w && f.rn == 15))
      [⟨s.priv, (vlsAddr f s).address.setWidth 64, 8, some (s.getV f.vd).toNat⟩]
  | .c16LdrLit f => s.c16Requests true [.read32 s.priv (addrLit f s) 4]
  | .c16StrLsr f => s.c16Requests true [.write32 s.priv (addrC16Lsr f s) 4 (s.lo f.rd)]
  | .c16StrhLsr f => s.c16Requests true [.write32 s.priv (addrC16Lsr f s) 2 (s.lo f.rd)]
  | .c16StrbLsr f => s.c16Requests true [.write32 s.priv (addrC16Lsr f s) 1 (s.lo f.rd)]
  | .c16LdrsbLsr f => s.c16Requests true [.read32 s.priv (addrC16Lsr f s) 1]
  | .c16LdrLsr f => s.c16Requests true [.read32 s.priv (addrC16Lsr f s) 4]
  | .c16LdrhLsr f => s.c16Requests true [.read32 s.priv (addrC16Lsr f s) 2]
  | .c16LdrbLsr f => s.c16Requests true [.read32 s.priv (addrC16Lsr f s) 1]
  | .c16LdrshLsr f => s.c16Requests true [.read32 s.priv (addrC16Lsr f s) 2]
  | .c16StrLsi f => s.c16Requests true [.write32 s.priv (addrC16Lsi 2 f s) 4 (s.lo f.rd)]
  | .c16LdrLsi f => s.c16Requests true [.read32 s.priv (addrC16Lsi 2 f s) 4]
  | .c16StrbLsi f => s.c16Requests true [.write32 s.priv (addrC16Lsi 0 f s) 1 (s.lo f.rd)]
  | .c16LdrbLsi f => s.c16Requests true [.read32 s.priv (addrC16Lsi 0 f s) 1]
  | .c16StrhLsi f => s.c16Requests true [.write32 s.priv (addrC16Lsi 1 f s) 2 (s.lo f.rd)]
  | .c16LdrhLsi f => s.c16Requests true [.read32 s.priv (addrC16Lsi 1 f s) 2]
  | .c16StrSpr f => s.c16Requests true [.write32 s.priv (addrSpr f s) 4 (s.lo f.rd)]
  | .c16LdrSpr f => s.c16Requests true [.read32 s.priv (addrSpr f s) 4]
  | .c16PushPp f => s.c16Requests (pushList f != 0)
      (s.writesFrom (pushList f) (multiStart (s.rC 13) (listSize (pushList f)) true false) s.rC)
  | .c16PopPp f => s.c16Requests (popList f != 0 && (!f.r || s.mayBranch)) (s.readsFrom (popList f) (s.rC 13))
  | .c16StmiaLsm f => s.c16Requests (f.reglist != 0)
      (s.writesFrom (f.reglist.setWidth 16) (s.rC (low f.rn)) s.rC)
  | .c16LdmiaLsm f => s.c16Requests (f.reglist != 0) (s.readsFrom (f.reglist.setWidth 16) (s.rC (low f.rn)))
  | .w64Strb f => [⟨s.priv, (w64Addr 0 f s).address, 1, some (s.getX f.rt).toNat⟩]
  | .w64Ldrb f => [⟨s.priv, (w64Addr 0 f s).address, 1, none⟩]
  | .w64Ldrsb f => [⟨s.priv, (w64Addr 0 f s).address, 1, none⟩]
  | .w64Ldrsbw f => [⟨s.priv, (w64Addr 0 f s).address, 1, none⟩]
  | .w64Strh f => [⟨s.priv, (w64Addr 1 f s).address, 2, some (s.getX f.rt).toNat⟩]
  | .w64Ldrh f => [⟨s.priv, (w64Addr 1 f s).address, 2, none⟩]
  | .w64Ldrsh f => [⟨s.priv, (w64Addr 1 f s).address, 2, none⟩]
  | .w64Ldrshw f => [⟨s.priv, (w64Addr 1 f s).address, 2, none⟩]
  | .w64Strw f => [⟨s.priv, (w64Addr 2 f s).address, 4, some (s.getX f.rt).toNat⟩]
  | .w64Ldrw f => [⟨s.priv, (w64Addr 2 f s).address, 4, none⟩]
  | .w64Ldrsw f => [⟨s.priv, (w64Addr 2 f s).address, 4, none⟩]
  | .w64Strx f => [⟨s.priv, (w64Addr 3 f s).address, 8, some (s.getX f.rt).toNat⟩]
  | .w64Ldrx f => [⟨s.priv, (w64Addr 3 f s).address, 8, none⟩]
  | .w64LdrwLit f => [⟨s.priv, BitVec.ofInt 64 (s.pc.toNat + 4 * f.imm19.toInt), 4, none⟩]
  | .w64LdrxLit f => [⟨s.priv, BitVec.ofInt 64 (s.pc.toNat + 4 * f.imm19.toInt), 8, none⟩]
  | .w64LdrswLit f => [⟨s.priv, BitVec.ofInt 64 (s.pc.toNat + 4 * f.imm19.toInt), 4, none⟩]
  | .w64StpLsp f => s.pairRequests f (some (s.getX f.rt).toNat) (some (s.getX f.rt2).toNat)
  | .w64LdpLsp f => s.pairRequests f none none
  | _ => []

end Sys2Proof.Machine
end

