-- ==== Sys2Proof/Certificates/Slice0/Obligations.lean ====
section
/-! DEFINITION. The statements for the provers. -/

open Sys2Proof Sys2Proof.Machine

/-! ### Reset, the invariant, the step -/

/-- What reset leaves, for every choice of the parameters and whatever the environment loads: the values
of 10_state.md R51, which are the spec's own choice and not its source's (log entry 2). -/
def Obligations.ResetLeavesTheStatedValues : Prop :=
  ∀ (p : Params) (mem : List Host.Cell) (cells : List SysCell),
    let s := State.resetWith p mem cells
    (∀ i : Fin 15, s.r[i] = 0) ∧ (∀ i : Fin 31, s.x[i] = 0) ∧ s.sp = 0 ∧ s.pc = p.resetPc ∧
    s.flags = ⟨false, false, false, false, false⟩ ∧ s.mode = p.resetMode.toMode ∧ s.priv = .privileged ∧
    s.itstate = 0 ∧ (∀ i : Fin 16, s.vec[i] = 0) ∧ s.vstat.en = false ∧
    (s.vstat.ioc = false ∧ s.vstat.len = 0 ∧ s.vstat.stride = 0) ∧ (s.vstat.sat = 0 ∧ s.vstat.pred = 0) ∧
    s.ctx = none ∧ s.lock = .free

/-- The invariant holds after reset with parameters in their domains and a memory in canonical form, and in
`State.reset`. -/
def Obligations.InvariantHoldsAtReset : Prop :=
  (∀ (p : Params) (mem : List Host.Cell) (cells : List SysCell),
    p.wf = true → Memory.wf mem = true → (State.resetWith p mem cells).Inv) ∧ State.reset.Inv

/-- Every step keeps the invariant: the canonical form of memory, the alignment and width of `pc` (10_state.md R25,
R28), the two mode families (R37), the bounds of the group state (R39) and the agreement of an open block's decode
context with the live state (49_block_control.md R600 to R608). -/
def Obligations.InvariantKeptByStep : Prop :=
  ∀ s t : State, s.Inv → step s = .next t → t.Inv

/-- With no raise pending, no breakpoint at `pc` and a fetch that the port answers, a step runs the instruction that the
fetched bytes decode to: `exec` of it in the open block, with the block bookkeeping around it. -/
def Obligations.StepRunsDecodedInstruction : Prop :=
  ∀ (s : State) (i : Instr),
    s.raised = none → s.pc ∉ s.env.breakpoints → s.aborts .fetch s.pc s.mode.instrBytes s.priv = false →
    decodeWord s.mode (bytesAt s.mem s.cfg.endian s.space.bits s.pc.toNat s.mode.instrBytes) = .ok i →
      step s = onNext (exec i (s.openBlock.enterGuard (itemOf i s.openBlock)))
        (s.openBlock.accountFrom (itemOf i s.openBlock))

/-- Blocks are invisible: the place in a block and the four block parameters change nothing that a step does to the
architectural state, and a step is `exec` of the decoded instruction up to the block bookkeeping
(49_block_control.md section 5). -/
def Obligations.BlocksAreInvisible : Prop :=
  (∀ (s : State) (c : Option Context) (e : Option BlockExit) (page max : Nat) (l : LinkPolicy) (single : Bool),
    onNext (step (s.reblock c e page max l single)) (State.reblock · none none 4 1 .never false)
      = onNext (step s) (State.reblock · none none 4 1 .never false)) ∧
  (∀ (s : State) (i : Instr),
    s.raised = none → s.pc ∉ s.env.breakpoints → s.aborts .fetch s.pc s.mode.instrBytes s.priv = false →
    decodeWord s.mode (bytesAt s.mem s.cfg.endian s.space.bits s.pc.toNat s.mode.instrBytes) = .ok i →
      onNext (step s) State.arch = onNext (exec i s) State.arch)

/-- A breakpoint raises `Debug` ahead of the fetch, a refused fetch raises `FetchAbort`, and either writes nothing but the
pending raise; a pending raise is what the environment's delivery answers, or the end of the run. An unclassified
pattern raises `Undefined` in the same way, unless its condition field (F32, outside the `1111` space) or its slot
(C16) fails: then it is skipped (60_exceptions.md sections 2 and 3). That the delivery is a step of its own is the model's
choice (log entry 6). -/
def Obligations.StepsWithoutAnInstruction : Prop :=
  ((∀ s : State, s.raised = none → s.pc ∈ s.env.breakpoints →
     onNext (step s) State.arch = .next (State.arch { s with raised := some ⟨.debug, s.pc, none⟩ })) ∧
   (∀ s : State, s.raised = none → s.pc ∉ s.env.breakpoints →
     s.aborts .fetch s.pc s.mode.instrBytes s.priv = true →
     onNext (step s) State.arch = .next (State.arch { s with raised := some ⟨.fetchAbort, s.pc, none⟩ })) ∧
   (∀ (delivery : Raise → State → Option State) (s : State) (r : Raise), s.raised = some r →
     stepWith delivery s = match delivery r s with
       | none => .fault (.halted r.cause)
       | some t => .next { t with raised := none, ctx := none })) ∧
  (∀ (s : State) (w : Nat) (e : DecodeError),
     s.raised = none → s.pc ∉ s.env.breakpoints → s.aborts .fetch s.pc s.mode.instrBytes s.priv = false →
     bytesAt s.mem s.cfg.endian s.space.bits s.pc.toNat s.mode.instrBytes = w → decodeWord s.mode w = .error e →
     let raised := State.arch { s with raised := some ⟨.undef, s.pc, none⟩ }
     onNext (step s) State.arch = .next (match s.mode with
       | .f32 =>
         if w / 2 ^ 28 % 16 = 15 ∨ s.flags.condPassed (BitVec.ofNat 4 (w / 2 ^ 28)) = true then raised
         else s.next4.arch
       | .c16 => if s.slotPassed = true then raised else s.finish2.arch
       | .w64 => raised))

/-! ### Encoding -/

/-- Words of every family, written out field by field from the formats of 30_encoding.md, decode to the instruction they
stand for. -/
def Obligations.DecodeWrittenWords : Prop :=
  decodeWord .f32 0b1110_000_0000_1_0001_0000_00000_00_0_0010 = .ok (.f32And ⟨14, true, 1, 0, .reg 0 .lsl 2⟩) ∧
  decodeWord .f32 0b0001_001_0101_0_0010_1001_0100_11111111 = .ok (.f32Adc ⟨1, false, 2, 9, .imm 4 0xFF⟩) ∧
  decodeWord .f32 0b1110_000_1010_1_0011_0000_0111_0_10_1_0101 = .ok (.f32Cmp ⟨14, 3, 0, .regShift 7 .asr 5⟩) ∧
  decodeWord .f32 0b1110_00000_01_1_1010_0011_1001_1001_0111 = .ok (.f32MlaMul ⟨14, true, 10, 3, 9, 7⟩) ∧
  decodeWord .f32 0b1110_00010_01_0_0010_0000_0000_0101_0001 = .ok (.f32QsubSat ⟨14, 2, 0, 1⟩) ∧
  decodeWord .f32 0b1110_010_1_1_0_0_1_0001_1010_000000000100 = .ok (.f32LdrLsi ⟨14, true, true, false, 1, 10, 4⟩) ∧
  decodeWord .f32 0b1110_100_0_1_0_1_1_1101_1000000000000101 =
    .ok (.f32LdmLsm ⟨14, false, true, false, true, 13, 0x8005⟩) ∧
  decodeWord .f32 0b1110_101_1_111111111111111111110000 = .ok (.f32BlBr ⟨14, 0xFFFFF0⟩) ∧
  decodeWord .f32 0b1110_1110_0010_0000_0011_101_0_0_00_0_0001 = .ok (.f32VqaddVop ⟨14, 0, 3, false, 0, 1⟩) ∧
  decodeWord .f32 0b1110_1110_000_1_0001_1010_1111_000_1_0000 = .ok (.f32SysrSys ⟨14, 0, 1, 10, 0, 0⟩) ∧
  decodeWord .c16 0b000_00_00001_011_000 = .ok (.c16LslsShi ⟨1, 3, 0⟩) ∧
  decodeWord .c16 0b010001_00_1_0001_000 = .ok (.c16AddHi ⟨1, 8⟩) ∧
  decodeWord .c16 0b011_0_1_00001_001_000 = .ok (.c16LdrLsi ⟨1, 1, 0⟩) ∧
  decodeWord .c16 0b1011_1111_0000_1000 = .ok (.c16ItIt ⟨0, 8⟩) ∧
  decodeWord .c16 0b1101_0010_00000100 = .ok (.c16BBc ⟨2, 4⟩) ∧
  decodeWord .w64 0b1_0_1_10001_00_000000000001_00100_01100 = .ok (.w64AddsAsi ⟨true, false, 1, 4, 12⟩) ∧
  decodeWord .w64 0b1_00_01010_11_0_00111_000100_00101_01100 = .ok (.w64AndLogr ⟨true, .ror, 7, 4, 5, 12⟩) ∧
  decodeWord .w64 0b01010100_0000000000000001000_0_0010 = .ok (.w64BcondBc ⟨8, 2⟩) ∧
  decodeWord .w64 0b1_00_11010110_01001_000010_00111_01100 = .ok (.w64UdivDp2 ⟨true, 9, 7, 12⟩) ∧
  decodeWord .w64 0b11_111_0_01_01_000000000001_00001_01100 = .ok (.w64Ldrx ⟨1, 12, .unsigned 1⟩)

/-- Decoding an encoded well-formed F32 instruction gives it back. -/
def Obligations.DecodeEncodeF32 : Prop :=
  ∀ i : Instr, i.wf = true → i.mode = .f32 → encode i < 2 ^ 32 ∧ decodeWord .f32 (encode i) = .ok i

/-- Decoding an encoded well-formed C16 instruction gives it back. -/
def Obligations.DecodeEncodeC16 : Prop :=
  ∀ i : Instr, i.wf = true → i.mode = .c16 → encode i < 2 ^ 16 ∧ decodeWord .c16 (encode i) = .ok i

/-- Decoding an encoded well-formed W64 instruction gives it back. -/
def Obligations.DecodeEncodeW64 : Prop :=
  ∀ i : Instr, i.wf = true → i.mode = .w64 → encode i < 2 ^ 32 ∧ decodeWord .w64 (encode i) = .ok i

/-- What the decoder of a mode answers is a well-formed instruction of that mode. -/
def Obligations.DecodeGivesWellFormed : Prop :=
  ∀ (m : Mode) (w : Nat) (i : Instr), w < 2 ^ (8 * m.instrBytes) → decodeWord m w = .ok i → i.wf = true ∧ i.mode = m

/-! ### Rules about every instruction -/

/-- Every instruction answers a next state, and one that raises writes nothing but the pending raise, with the address of
the instruction. `Undefined` leaves memory alone. `DataAbort` comes from a request of the instruction that the port
refused, all requests before it answered: memory then holds the bytes of the writes before it over the old ones, and
stays as it was if there is none, as for every load and single store (60_exceptions.md sections 1 to 3, 20_memory.md
section 6). -/
def Obligations.EveryInstructionAnswersAndRaisesArePrecise : Prop :=
  (∀ (i : Instr) (s : State), ∃ t, exec i s = .next t) ∧
  (∀ (i : Instr) (s t : State) (r : Raise), s.raised = none → exec i s = .next t → t.raised = some r →
    t = { s with mem := t.mem, raised := some r } ∧ r.ia = s.pc ∧
    ((r.cause = .undef ∧ r.access = none ∧ t.mem = s.mem) ∨
     (r.cause = .dataAbort ∧ ∃ before q after, requests i s = before ++ q :: after ∧
       (∀ p ∈ before, s.refuses p = false) ∧ s.refuses q = true ∧ r.access = some q.access ∧
       ((∀ p ∈ before, p.written = none) → t.mem = s.mem) ∧
       (Memory.wf s.mem = true →
         ReadsAs t.mem (writtenOver s.cfg.endian (addrBits i) (Memory.get s.mem) before)))))

/-- An F32 instruction whose condition fails does nothing but `pc <- next` (30_encoding.md R103). A C16 instruction in a
slot whose condition fails does nothing but `pc <- next` and the advance of the group; the `BL` prefix consumes no slot
(47_c16_compact.md R442, R497). -/
def Obligations.FailedConditionsSkip : Prop :=
  (∀ (i : Instr) (s : State), i.mode = .f32 → s.flags.condPassed (shapeOf s i).cond = false → exec i s = .next s.next4) ∧
  (∀ (i : Instr) (s : State), i.mode = .c16 → s.slotPassed = false →
     exec i s = .next (match i with
       | .c16BlBl1 _ => s.next2
       | _ => s.finish2))

/-- Which state an instruction of each encoding can write: none writes `priv`, the lock, the parameters, the inputs or the
block state; W64 leaves the 32-bit file, the vector unit, the group state, `Q`, the mode and the privileged-state
registers; the 32-bit encodings leave the W64 file; C16 leaves the vector unit and `Q`; F32 leaves the group state; and
only a privileged `SYSW` writes a privileged-state register (10_state.md R32, R33, R38, R42). -/
def Obligations.StateWriters : Prop :=
  ∀ (i : Instr) (s t : State), exec i s = .next t →
    (t.priv = s.priv ∧ t.lock = s.lock ∧ t.cfg = s.cfg ∧ t.env = s.env ∧ t.ctx = s.ctx ∧ t.lastExit = s.lastExit) ∧
    (i.mode = .w64 → t.r = s.r ∧ t.vec = s.vec ∧ t.vstat = s.vstat ∧ t.itstate = s.itstate ∧ t.flags.q = s.flags.q ∧
      t.mode = s.mode ∧ t.sysRegs = s.sysRegs) ∧
    (i.mode ≠ .w64 → t.x = s.x ∧ t.sp = s.sp) ∧
    (i.mode = .c16 → t.vec = s.vec ∧ t.vstat = s.vstat ∧ t.flags.q = s.flags.q) ∧
    (i.mode = .f32 → t.itstate = s.itstate) ∧
    (t.sysRegs ≠ s.sysRegs → s.priv = .privileged ∧ ∃ f, i = .f32SyswSys f)

/-- The mode changes only between F32 and C16 and only through the interworking transfers: `BX`, `BLX`, and the loads of
`pc` (10_state.md section 6). -/
def Obligations.ModeChangesOnlyByInterworking : Prop :=
  ∀ (i : Instr) (s t : State), exec i s = .next t → i.mode = s.mode → t.mode ≠ s.mode →
    (s.mode = .f32 ∧ t.mode = .c16 ∧
      ((∃ f, i = .f32BxMisc f) ∨ (∃ f, i = .f32BlxMisc f) ∨ (∃ f, i = .f32BlxBlxi f) ∨
        (∃ f, i = .f32LdrLsi f ∧ f.rd = 15) ∨ (∃ f, i = .f32LdrLsr f ∧ f.rd = 15) ∨
        (∃ f, i = .f32LdmLsm f ∧ f.reglist[15] = true))) ∨
    (s.mode = .c16 ∧ t.mode = .f32 ∧
      ((∃ f, i = .c16BxBx f) ∨ (∃ f, i = .c16BlxBx f) ∨ (∃ f, i = .c16BlxBl2 f) ∨ (∃ f, i = .c16PopPp f ∧ f.r = true)))

/-- The sticky bits: `Q` is cleared by `MSR` alone, and a `VSAT` bit or `VFSR.IOC` by a `VMSR` to its register alone
(10_state.md R35, R45, R46). -/
def Obligations.StickyBitsStay : Prop :=
  ∀ (i : Instr) (s t : State), exec i s = .next t →
    (s.flags.q = true → t.flags.q = false →
      (∃ f, i = .f32MsrMisc f ∧ f.fmask[3] = true) ∨ (∃ f, i = .f32MsrMsri f ∧ f.fmask[3] = true)) ∧
    (∀ j : Fin 8, s.vstat.sat[j] = true → t.vstat.sat[j] = false →
      ∃ f, i = .f32VmsrVctl f ∧ f.vcn = 2 ∧ s.vstat.en = true) ∧
    (s.vstat.ioc = true → t.vstat.ioc = false → ∃ f, i = .f32VmsrVctl f ∧ f.vcn = 1 ∧ s.vstat.en = true)

/-- What raises `Undefined` and writes nothing else. In user mode: `LDM` and `STM` with `S = 1`, `SYSR`, `SYSW`,
`VMSR VCTL` (60_exceptions.md section 5). A lane operation while the unit is disabled or a replication field is not 0,
and on every lane size or fixed field its row does not accept (46_vector_instructions.md section 1). In C16, an
instruction that writes `pc` in a slot that passes and is not the last, `B<cond>` in every slot, an empty register list,
`BLX pc` (47_c16_compact.md sections 1, 4, 6 and 8). Register 15 where an F32 load, store, multiple or vector transfer does
not accept it, a pair from an odd register or from 14, an empty register list, `S = 1` with writeback (decision D22 and
P10 of 93_implementation_defined.md, log entry 8), a load of register 15 with `S = 1` (44_f32_load_store.md,
46_vector_instructions.md sections 9 to 11). -/
def Obligations.UndefinedForms : Prop :=
  (∀ s : State, s.priv = .user →
     (∀ f : F32.LSM, s.passes f.cond → f.s = true →
       exec (.f32LdmLsm f) s = .next { s with raised := some ⟨.undef, s.pc, none⟩ } ∧
       exec (.f32StmLsm f) s = .next { s with raised := some ⟨.undef, s.pc, none⟩ }) ∧
     (∀ f : F32.SYS, s.passes f.cond →
       exec (.f32SysrSys f) s = .next { s with raised := some ⟨.undef, s.pc, none⟩ } ∧
       exec (.f32SyswSys f) s = .next { s with raised := some ⟨.undef, s.pc, none⟩ }) ∧
     (∀ f : F32.VCTL, s.passes f.cond → f.vcn = 0 →
       exec (.f32VmsrVctl f) s = .next { s with raised := some ⟨.undef, s.pc, none⟩ })) ∧
  (∀ (f : F32.VOP) (s : State), s.passes f.cond →
     let traps (ops : List (F32.VOP → Instr)) : Prop :=
       ∀ op ∈ ops, exec (op f) s = .next { s with raised := some ⟨.undef, s.pc, none⟩ }
     (¬ s.lanesOn → traps laneOps) ∧
     (f.u = true → traps [.f32VaddVop, .f32VsubVop, .f32VpackVop, .f32VzipbVop, .f32VziptVop, .f32VandVop, .f32VorrVop,
       .f32VeorVop, .f32VceqVop, .f32VfceqVop, .f32VfcgeVop, .f32VfcgtVop, .f32VfacgeVop, .f32VfacgtVop, .f32VfcmpVop,
       .f32VfcmpeVop]) ∧
     (f.sz = 3 → traps [.f32VmullbVop, .f32VmulltVop, .f32VdotVop, .f32VdotaVop, .f32VmulhVop, .f32VrmulhVop,
       .f32VunpkbVop, .f32VunpktVop, .f32VzipbVop, .f32VziptVop]) ∧
     (f.sz = 0 → traps [.f32VpackVop, .f32VqpackVop]) ∧
     (f.sz ≠ 0 → traps [.f32VandVop, .f32VorrVop, .f32VeorVop]) ∧
     (f.sz.toNat < 2 → traps [.f32VfceqVop, .f32VfcgeVop, .f32VfcgtVop, .f32VfacgeVop, .f32VfacgtVop, .f32VfcmpVop,
       .f32VfcmpeVop]) ∧
     (f.vm ≠ 0 → traps [.f32VunpkbVop, .f32VunpktVop]) ∧
     (f.vd ≠ 0 → traps [.f32VfcmpVop, .f32VfcmpeVop])) ∧
  (∀ s : State, s.slotRuns →
     let traps (i : Instr) : Prop := exec i s = .next { s with raised := some ⟨.undef, s.pc, none⟩ }
     (s.itstate.toNat % 16 ≠ 0 → s.itstate.toNat % 8 ≠ 0 →
       (∀ f : C16.HI, f.d = 15 → traps (.c16AddHi f) ∧ traps (.c16MovHi f)) ∧
       (∀ f : C16.BXR, traps (.c16BxBx f) ∧ traps (.c16BlxBx f)) ∧ (∀ f : C16.B, traps (.c16BB f)) ∧
       (∀ f : C16.BL2, traps (.c16BlBl2 f)) ∧ (∀ f : C16.BL2X, traps (.c16BlxBl2 f)) ∧
       (∀ f : C16.PP, f.r = true → traps (.c16PopPp f))) ∧
     (s.itstate.toNat % 16 ≠ 0 → ∀ f : C16.BC, traps (.c16BBc f)) ∧
     (∀ f : C16.BXR, f.rm = 15 → traps (.c16BlxBx f)) ∧
     (∀ f : C16.PP, f.reglist = 0 → f.r = false → traps (.c16PushPp f) ∧ traps (.c16PopPp f)) ∧
     (∀ f : C16.LSM, f.reglist = 0 → traps (.c16StmiaLsm f) ∧ traps (.c16LdmiaLsm f))) ∧
  (∀ s : State,
     let traps (i : Instr) : Prop := exec i s = .next { s with raised := some ⟨.undef, s.pc, none⟩ }
     (∀ f : F32.LSI, s.passes f.cond →
        ((f.p = false ∨ f.w = true) ∧ f.rn = 15 → traps (.f32LdrLsi f) ∧ traps (.f32StrLsi f)) ∧
        (((f.p = false ∨ f.w = true) ∧ f.rn = 15) ∨ f.rd = 15 → traps (.f32LdrbLsi f) ∧ traps (.f32StrbLsi f))) ∧
     (∀ f : F32.LSR, s.passes f.cond →
        (((f.p = false ∨ f.w = true) ∧ f.rn = 15) ∨ f.rm = 15 → traps (.f32LdrLsr f) ∧ traps (.f32StrLsr f)) ∧
        (((f.p = false ∨ f.w = true) ∧ f.rn = 15) ∨ f.rm = 15 ∨ f.rd = 15 →
          traps (.f32LdrbLsr f) ∧ traps (.f32StrbLsr f))) ∧
     (∀ f : F32.LSHI, s.passes f.cond →
        (((f.p = false ∨ f.w = true) ∧ f.rn = 15) ∨ f.rd = 15 →
          traps (.f32LdrhLshi f) ∧ traps (.f32StrhLshi f) ∧ traps (.f32LdrsbLshi f) ∧ traps (.f32LdrshLshi f)) ∧
        (((f.p = false ∨ f.w = true) ∧ f.rn = 15) ∨ f.rd.val % 2 = 1 ∨ f.rd = 14 →
          traps (.f32LdrdLshi f) ∧ traps (.f32StrdLshi f))) ∧
     (∀ f : F32.LSHR, s.passes f.cond →
        (((f.p = false ∨ f.w = true) ∧ f.rn = 15) ∨ f.rm = 15 ∨ f.rd = 15 →
          traps (.f32LdrhLshr f) ∧ traps (.f32StrhLshr f) ∧ traps (.f32LdrsbLshr f) ∧ traps (.f32LdrshLshr f)) ∧
        (((f.p = false ∨ f.w = true) ∧ f.rn = 15) ∨ f.rm = 15 ∨ f.rd.val % 2 = 1 ∨ f.rd = 14 →
          traps (.f32LdrdLshr f) ∧ traps (.f32StrdLshr f))) ∧
     (∀ f : F32.LSIT, s.passes f.cond → f.rn = 15 ∨ f.rd = 15 →
        traps (.f32LdrtLsi f) ∧ traps (.f32StrtLsi f) ∧ traps (.f32LdrbtLsi f) ∧ traps (.f32StrbtLsi f)) ∧
     (∀ f : F32.LSRT, s.passes f.cond → f.rn = 15 ∨ f.rm = 15 ∨ f.rd = 15 →
        traps (.f32LdrtLsr f) ∧ traps (.f32StrtLsr f) ∧ traps (.f32LdrbtLsr f) ∧ traps (.f32StrbtLsr f)) ∧
     (∀ f : F32.LSM, s.passes f.cond →
        (f.rn = 15 ∨ f.reglist = 0 → traps (.f32LdmLsm f) ∧ traps (.f32StmLsm f)) ∧
        (f.s = true → f.w = true → traps (.f32LdmLsm f) ∧ traps (.f32StmLsm f)) ∧
        (f.s = true → f.reglist[15] = true → traps (.f32LdmLsm f))) ∧
     (∀ f : F32.SWP, s.passes f.cond → f.rd = 15 ∨ f.rm = 15 ∨ f.rn = 15 →
        traps (.f32SwpSwp f) ∧ traps (.f32SwpbSwp f)) ∧
     (∀ f : F32.SYS, s.passes f.cond → f.rt = 15 → traps (.f32SysrSys f) ∧ traps (.f32SyswSys f)) ∧
     (∀ f : F32.VXFER, s.passes f.cond →
        (s.vstat.en = false ∨ f.rt = 15 ∨ f.rt2 = 15 → traps (.f32VmovtvVxfer f)) ∧
        (s.vstat.en = false ∨ f.rt = 15 ∨ f.rt2 = 15 ∨ f.rt = f.rt2 → traps (.f32VmovfvVxfer f))) ∧
     (∀ f : F32.VCTL, s.passes f.cond → f.rt = 15 ∨ (f.vcn ≠ 0 ∧ s.vstat.en = false) →
        traps (.f32VmrsVctl f) ∧ traps (.f32VmsrVctl f)) ∧
     (∀ f : F32.VLS, s.passes f.cond → s.vstat.en = false ∨ (f.w = true ∧ f.rn = 15) →
        traps (.f32VldrVls f) ∧ traps (.f32VstrVls f)))

/-! ### The operand functions -/

/-- `ConditionPassed` in the equivalent form of 40_condition_shifter.md R151: a base predicate chosen by the upper three
bits, inverted by the lowest. -/
def Obligations.ConditionEvaluator : Prop :=
  ∀ (f : Flags) (c : Cond),
    f.condPassed c =
      (let b := match (c.extractLsb' 1 3).toNat with
        | 0 => f.z
        | 1 => f.c
        | 2 => f.n
        | 3 => f.v
        | 4 => f.c && !f.z
        | 5 => f.n == f.v
        | 6 => (f.n == f.v) && !f.z
        | _ => true
      if c.getLsbD 0 = false ∨ c.extractLsb' 1 3 = 7 then b else !b)

/-- `ShiftImm` and `ShiftReg`, in integer arithmetic: every kind, every amount, result and carry
(40_condition_shifter.md R156, R157). -/
def Obligations.BarrelShifter : Prop :=
  (∀ (v : Word) (imm5 : BitVec 5) (cin : Bool),
     let n := imm5.toNat
     (n = 0 →
       shiftImm .lsl v imm5 cin = ⟨v, cin⟩ ∧
       shiftImm .lsr v imm5 cin = ⟨0, v[31]⟩ ∧
       shiftImm .asr v imm5 cin = ⟨if v[31] then 0xFFFFFFFF else 0, v[31]⟩ ∧
       shiftImm .ror v imm5 cin = ⟨BitVec.ofNat 32 (cin.toNat * 2 ^ 31 + v.toNat / 2), v[0]⟩) ∧
     (0 < n →
       shiftImm .lsl v imm5 cin = ⟨BitVec.ofNat 32 (v.toNat * 2 ^ n), v.getLsbD (32 - n)⟩ ∧
       shiftImm .lsr v imm5 cin = ⟨BitVec.ofNat 32 (v.toNat / 2 ^ n), v.getLsbD (n - 1)⟩ ∧
       shiftImm .asr v imm5 cin = ⟨BitVec.ofInt 32 (v.toInt / 2 ^ n), v.getLsbD (n - 1)⟩ ∧
       shiftImm .ror v imm5 cin =
         ⟨BitVec.ofNat 32 (v.toNat / 2 ^ n + v.toNat * 2 ^ (32 - n)), v.getLsbD (n - 1)⟩)) ∧
  (∀ (v : Word) (amt : BitVec 8) (cin : Bool),
     let n := amt.toNat
     (n = 0 → ∀ k, shiftReg k v amt cin = ⟨v, cin⟩) ∧
     (1 ≤ n ∧ n ≤ 31 →
       shiftReg .lsl v amt cin = ⟨BitVec.ofNat 32 (v.toNat * 2 ^ n), v.getLsbD (32 - n)⟩ ∧
       shiftReg .lsr v amt cin = ⟨BitVec.ofNat 32 (v.toNat / 2 ^ n), v.getLsbD (n - 1)⟩ ∧
       shiftReg .asr v amt cin = ⟨BitVec.ofInt 32 (v.toInt / 2 ^ n), v.getLsbD (n - 1)⟩) ∧
     (n = 32 → shiftReg .lsl v amt cin = ⟨0, v[0]⟩ ∧ shiftReg .lsr v amt cin = ⟨0, v[31]⟩) ∧
     (33 ≤ n → shiftReg .lsl v amt cin = ⟨0, false⟩ ∧ shiftReg .lsr v amt cin = ⟨0, false⟩) ∧
     (32 ≤ n → shiftReg .asr v amt cin = ⟨if v[31] then 0xFFFFFFFF else 0, v[31]⟩) ∧
     (n ≠ 0 → n % 32 = 0 → shiftReg .ror v amt cin = ⟨v, v[31]⟩) ∧
     (n % 32 ≠ 0 →
       shiftReg .ror v amt cin =
         ⟨BitVec.ofNat 32 (v.toNat / 2 ^ (n % 32) + v.toNat * 2 ^ (32 - n % 32)), v.getLsbD (n % 32 - 1)⟩))

/-- The second operand of an F32 data-processing instruction: the rotated immediate in integer arithmetic with its carry,
and the two shifted-register forms (30_encoding.md R105, 40_condition_shifter.md R160, 43_f32_data_processing.md R250). -/
def Obligations.SecondOperand : Prop :=
  (∀ (s : State) (rot : BitVec 4) (imm8 : BitVec 8),
    let v : Word := BitVec.ofNat 32 (imm8.toNat / 2 ^ (2 * rot.toNat) + imm8.toNat * 2 ^ (32 - 2 * rot.toNat))
    s.op2 (.imm rot imm8) = ⟨v, if rot = 0 then s.flags.c else v[31]⟩) ∧
  (∀ (s : State) (n : BitVec 5) (k : ShiftKind) (rm : Fin 16),
    s.op2 (.reg n k rm) = shiftImm k (if h : rm.val < 15 then s.r[rm.val] else s.ia32 + 8) n s.flags.c) ∧
  (∀ (s : State) (rs rm : Fin 16) (k : ShiftKind) (_ : rs ≠ 15) (_ : rm ≠ 15),
    s.op2 (.regShift rs k rm) =
      shiftReg k (s.r[rm.val]'(by omega)) (BitVec.ofNat 8 (s.r[rs.val]'(by omega)).toNat) s.flags.c)

/-- `ResolveSingle` (42_addressing_modes.md R221) in integer arithmetic, at every width; and every post-indexed access
of the model writes back: F32 and W64 single registers, W64 pairs, the vector transfers. -/
def Obligations.SingleAddresses : Prop :=
  (∀ (w : Nat) (base off : BitVec w) (add index wback : Bool),
    let offaddr : BitVec w := BitVec.ofInt w (if add then base.toNat + off.toNat else base.toNat - off.toNat)
    resolveSingle base off add index wback = ⟨if index then offaddr else base, if wback then some offaddr else none⟩) ∧
  (∀ s : State,
    (∀ a : SingleAddr, a.p = false → (a.resolve s).newBase.isSome = true) ∧
    (∀ (k : Nat) (rn rt : Fin 32) (imm9 : BitVec 9), (w64Addr k ⟨rn, rt, .signed imm9 1⟩ s).newBase.isSome = true) ∧
    (∀ f : W64.LSP, f.idx = 1 → (pairAddr f s).newBase.isSome = true) ∧
    (∀ f : F32.VLS, f.wf = true → f.p = false → (vlsAddr f s).newBase.isSome = true))

/-- The operations that several families share, in integer arithmetic: the four modes of `ResolveMultiple`
(42_addressing_modes.md section 2); `BranchExchange`, which takes the mode from bit 0 of the target and aligns the
target for it (45_f32_branch_system.md section 1); the advance of the conditional-execution group
(47_c16_compact.md section 1). -/
def Obligations.SharedOperations : Prop :=
  (∀ (base : Word) (n : Nat), 1 ≤ n ∧ n ≤ 16 →
    resolveMultiple base n false true = ⟨base, BitVec.ofInt 32 (base.toNat + 4 * n)⟩ ∧
    resolveMultiple base n true true = ⟨BitVec.ofInt 32 (base.toNat + 4), BitVec.ofInt 32 (base.toNat + 4 * n)⟩ ∧
    resolveMultiple base n false false =
      ⟨BitVec.ofInt 32 (base.toNat - 4 * n + 4), BitVec.ofInt 32 (base.toNat - 4 * n)⟩ ∧
    resolveMultiple base n true false =
      ⟨BitVec.ofInt 32 (base.toNat - 4 * n), BitVec.ofInt 32 (base.toNat - 4 * n)⟩) ∧
  (∀ (s : State) (t : Word),
    (t[0] = true →
      s.branchExchange t = { s with mode := .c16, pc := BitVec.ofNat 64 (t.toNat / 2 * 2) }) ∧
    (t[0] = false →
      s.branchExchange t = { s with mode := .f32, pc := BitVec.ofNat 64 (t.toNat / 4 * 4) })) ∧
  (∀ s : State,
    let next : BitVec 8 :=
      if s.itstate.toNat % 8 = 0 then 0
      else BitVec.ofNat 8 (s.itstate.toNat / 32 * 32 + s.itstate.toNat % 32 * 2 % 32)
    s.advanceIt = { s with itstate := next })

/-- A store puts each byte where the byte order says, around the top of the address space, and no other byte changes; a
load of the same size at the same address then gives the low bytes of the value (20_memory.md R76, R81, R83). -/
def Obligations.LoadAfterStore : Prop :=
  ∀ (s t : State) (sp : Space) (acc : Priv) (a : DWord) (n v : Nat),
    Memory.wf s.mem = true → n = 1 ∨ n = 2 ∨ n = 4 ∨ n = 8 → a.toNat < 2 ^ sp.bits →
    s.store sp acc a n v = .ok t →
      t = { s with mem := t.mem } ∧ Memory.wf t.mem = true ∧
      ReadsAs t.mem (storedOver (Memory.get s.mem) s.cfg.endian sp.bits a.toNat n v) ∧
      (t.aborts .read a n acc = false → t.load sp acc a n = .ok (v % 2 ^ (8 * n)))

/-- `Clamp`, `SatAdd` and `SatSub` at every lane width (41_lane_semantics.md R184, R185, R186), and the properties the
source requires of them (R187): identity, symmetry, the range of the result, the indication exactly when the exact
result falls outside it. -/
def Obligations.SaturatingLaneFunctions : Prop :=
  (∀ (w : Nat) (g : Bool), 0 < w →
    (∀ v : Int, ((clampLane w g v).1 : Int) = nearest w g v % 2 ^ w ∧ (clampLane w g v).2 = overflows w g v) ∧
    (∀ a b : Nat, a < 2 ^ w → b < 2 ^ w →
      let A := laneVal w g a
      let B := laneVal w g b
      let inRange (q : Nat × Bool) : Prop := laneLo w g ≤ laneVal w g q.1 ∧ laneVal w g q.1 ≤ laneHi w g
      satAdd w g a b = clampLane w g (A + B) ∧ satSub w g a b = clampLane w g (A - B) ∧
      (g = false → a < b → satSub w g a b = (0, true)) ∧
      satAdd w g a 0 = (a, false) ∧ satSub w g a 0 = (a, false) ∧ satAdd w g a b = satAdd w g b a ∧
      inRange (satAdd w g a b) ∧ inRange (satSub w g a b) ∧
      ((satAdd w g a b).2 = true ↔ A + B < laneLo w g ∨ laneHi w g < A + B) ∧
      ((satSub w g a b).2 = true ↔ A - B < laneLo w g ∨ laneHi w g < A - B))) ∧
  satSub 8 true 1 0 ≠ satSub 8 true 0 1

/-- The floating-point compare against the exact values: unordered exactly on a NaN, infinities outside every finite
number, and finite numbers by their rational values, so that both zeros are equal (41_lane_semantics.md R200, R201). -/
def Obligations.FloatCompareIsExact : Prop :=
  ∀ (w : Nat) (quiet : Bool) (a b : Nat), w = 32 ∨ w = 64 → a < 2 ^ w → b < 2 ^ w →
    let nan (x : Nat) : Prop := isFinite w x = false ∧ x % 2 ^ fracBits w ≠ 0
    let inf (x : Nat) : Prop := isFinite w x = false ∧ x % 2 ^ fracBits w = 0
    let signaling (x : Nat) : Prop := nan x ∧ x / 2 ^ (fracBits w - 1) % 2 = 0
    let result := floatCompare w quiet a b
    (nan a ∨ nan b → result.1 = .unordered ∧
      (result.2 = true ↔ quiet = false ∨ signaling a ∨ signaling b)) ∧
    (¬ nan a → ¬ nan b → result.2 = false) ∧
    (isFinite w a = true → isFinite w b = true →
      result.1 = if floatRat w a = floatRat w b then .equal else if floatRat w a < floatRat w b then .less
        else .greater) ∧
    (inf a → ¬ nan b → result.1 = if a = b then .equal else if a < 2 ^ (w - 1) then .greater else .less) ∧
    (¬ nan a → inf b → result.1 = if a = b then .equal else if b < 2 ^ (w - 1) then .less else .greater)

/-! ### F32 data processing -/

/-- `AND`, `EOR`, `ORR`, `MOV`, `BIC`, `MVN` into a register below 15: the result; with `S`, `N` and `Z` from it, `C` from
the shifter, `V` and `Q` as they were; and `pc <- next`. -/
def Obligations.LogicalOpcodes : Prop :=
  ∀ (f : F32.DP) (s : State), s.passes f.cond → op2Clear f.op2 f.rn f.rd → f.rd ≠ 15 →
    let a := s.rF f.rn
    let b := (s.op2 f.op2).value
    let out (res : Word) : Host.Outcome State Fault Refusal :=
      .next (State.setR { s with flags := if f.s then bitFlags s.flags res (s.op2 f.op2).carry else s.flags }
        f.rd res).next4
    exec (.f32And f) s = out (a &&& b) ∧ exec (.f32Eor f) s = out (a ^^^ b) ∧ exec (.f32Orr f) s = out (a ||| b) ∧
    exec (.f32Mov f) s = out b ∧ exec (.f32Bic f) s = out (a &&& ~~~b) ∧ exec (.f32Mvn f) s = out (~~~b)

/-- `ADD`, `ADC`, `SUB`, `SBC`, `RSB`, `RSC` into a register below 15: the sum or difference as an exact integer; with
`S`, `C` is the carry or the absence of a borrow and `V` tells that the signed result does not fit. -/
def Obligations.ArithmeticOpcodes : Prop :=
  ∀ (f : F32.DP) (s : State), s.passes f.cond → op2Clear f.op2 f.rn f.rd → f.rd ≠ 15 →
    let a := s.rF f.rn
    let b := (s.op2 f.op2).value
    let c := s.flags.c.toNat
    let out (res : Word) (fl : Flags) : Host.Outcome State Fault Refusal :=
      .next (State.setR { s with flags := if f.s then fl else s.flags } f.rd res).next4
    exec (.f32Add f) s = out (sumBits a b 0) (sumFlags s.flags a b 0) ∧
    exec (.f32Adc f) s = out (sumBits a b c) (sumFlags s.flags a b c) ∧
    exec (.f32Sub f) s = out (diffBits a b 0) (diffFlags s.flags a b 0) ∧
    exec (.f32Sbc f) s = out (diffBits a b (1 - c)) (diffFlags s.flags a b (1 - c)) ∧
    exec (.f32Rsb f) s = out (diffBits b a 0) (diffFlags s.flags b a 0) ∧
    exec (.f32Rsc f) s = out (diffBits b a (1 - c)) (diffFlags s.flags b a (1 - c))

/-- A data-processing result for register 15 without `S` is a branch inside F32 with bits 1:0 cleared, and writes
nothing else; with `S`, or with register 15 in any field of a register-shifted form, the instruction raises
`Undefined` (43_f32_data_processing.md section 1). -/
def Obligations.DataProcessingRegister15 : Prop :=
  (∀ (f : F32.DP) (s : State), s.passes f.cond → op2Clear f.op2 f.rn f.rd → f.rd = 15 → f.s = false →
    let a := s.rF f.rn
    let b := (s.op2 f.op2).value
    let c := s.flags.c.toNat
    let out (res : Word) : Host.Outcome State Fault Refusal :=
      .next { s with pc := BitVec.ofNat 64 (res.toNat / 4 * 4) }
    exec (.f32And f) s = out (a &&& b) ∧ exec (.f32Eor f) s = out (a ^^^ b) ∧ exec (.f32Orr f) s = out (a ||| b) ∧
    exec (.f32Mov f) s = out b ∧ exec (.f32Bic f) s = out (a &&& ~~~b) ∧ exec (.f32Mvn f) s = out (~~~b) ∧
    exec (.f32Add f) s = out (sumBits a b 0) ∧ exec (.f32Adc f) s = out (sumBits a b c) ∧
    exec (.f32Sub f) s = out (diffBits a b 0) ∧ exec (.f32Sbc f) s = out (diffBits a b (1 - c)) ∧
    exec (.f32Rsb f) s = out (diffBits b a 0) ∧ exec (.f32Rsc f) s = out (diffBits b a (1 - c))) ∧
  (∀ op ∈ dpWriters, ∀ (f : F32.DP) (s : State), s.passes f.cond →
    ¬ op2Clear f.op2 f.rn f.rd ∨ (f.s = true ∧ f.rd = 15) →
      exec (op f) s = .next { s with raised := some ⟨.undef, s.pc, none⟩ }) ∧
  (∀ op ∈ dpCompares, ∀ (f : F32.DPC) (s : State), s.passes f.cond → ¬ op2Clear f.op2 f.rn f.rd →
      exec (op f) s = .next { s with raised := some ⟨.undef, s.pc, none⟩ })

/-- `TST`, `TEQ`, `CMP`, `CMN` write the flags alone: the logical pair keep `V`, the arithmetic pair give `C` and `V` of
the exact difference or sum. -/
def Obligations.CompareOpcodes : Prop :=
  ∀ (f : F32.DPC) (s : State), s.passes f.cond → op2Clear f.op2 f.rn f.rd →
    let a := s.rF f.rn
    let b := (s.op2 f.op2).value
    let c := (s.op2 f.op2).carry
    exec (.f32Tst f) s = .next (State.next4 { s with flags := bitFlags s.flags (a &&& b) c }) ∧
    exec (.f32Teq f) s = .next (State.next4 { s with flags := bitFlags s.flags (a ^^^ b) c }) ∧
    exec (.f32Cmp f) s = .next (State.next4 { s with flags := diffFlags s.flags a b 0 }) ∧
    exec (.f32Cmn f) s = .next (State.next4 { s with flags := sumFlags s.flags a b 0 })

/-- The six multiplies: exact products reduced to the width of the result, `RdLo` before `RdHi`, `N` and `Z` alone with
`S`; register 15 in any field raises `Undefined` (43_f32_data_processing.md section 3). -/
def Obligations.Multiplies : Prop :=
  (∀ (f : F32.MUL) (s : State), s.passes f.cond →
    exec (.f32MulMul f) s =
      if f.rd = 15 ∨ f.rs = 15 ∨ f.rm = 15 then .next { s with raised := some ⟨.undef, s.pc, none⟩ }
      else
        let res := BitVec.ofNat 32 ((s.rF f.rm).toNat * (s.rF f.rs).toNat)
        .next (State.setR { s with flags := if f.s then bitFlags s.flags res s.flags.c else s.flags } f.rd res).next4) ∧
  (∀ (f : F32.MLA) (s : State), s.passes f.cond →
    exec (.f32MlaMul f) s =
      if f.rd = 15 ∨ f.rn = 15 ∨ f.rs = 15 ∨ f.rm = 15 then .next { s with raised := some ⟨.undef, s.pc, none⟩ }
      else
        let res := BitVec.ofNat 32 ((s.rF f.rm).toNat * (s.rF f.rs).toNat + (s.rF f.rn).toNat)
        .next (State.setR { s with flags := if f.s then bitFlags s.flags res s.flags.c else s.flags } f.rd res).next4) ∧
  (∀ (f : F32.MULL) (s : State), s.passes f.cond →
    let acc : Int := (s.rF f.rdHi).toNat * 2 ^ 32 + (s.rF f.rdLo).toNat
    let out (p : Int) : Host.Outcome State Fault Refusal :=
      if f.rdHi = 15 ∨ f.rdLo = 15 ∨ f.rs = 15 ∨ f.rm = 15 then .next { s with raised := some ⟨.undef, s.pc, none⟩ }
      else
        .next ((State.setR
          { s with flags := if f.s then bitFlags s.flags (BitVec.ofInt 64 p) s.flags.c else s.flags }
          f.rdLo (BitVec.ofInt 32 p)).setR f.rdHi (BitVec.ofInt 32 (p / 2 ^ 32))).next4
    exec (.f32UmullMull f) s = out ((s.rF f.rm).toNat * (s.rF f.rs).toNat) ∧
    exec (.f32UmlalMull f) s = out ((s.rF f.rm).toNat * (s.rF f.rs).toNat + acc) ∧
    exec (.f32SmullMull f) s = out ((s.rF f.rm).toInt * (s.rF f.rs).toInt) ∧
    exec (.f32SmlalMull f) s = out ((s.rF f.rm).toInt * (s.rF f.rs).toInt + acc))

/-- The four saturating instructions: the nearest representable value, `Q` set when a clamp happened and kept otherwise,
no other flag; the doubling saturates on its own; register 15 raises `Undefined` (43_f32_data_processing.md
section 4). -/
def Obligations.SaturatingInstructions : Prop :=
  ∀ (f : F32.SAT) (s : State), s.passes f.cond →
    let m := (s.rF f.rm).toInt
    let n := (s.rF f.rn).toInt
    let d := saturate32 (2 * n)
    let out (v : Int) (sat : Bool) : Host.Outcome State Fault Refusal :=
      if f.rd = 15 ∨ f.rm = 15 ∨ f.rn = 15 then .next { s with raised := some ⟨.undef, s.pc, none⟩ }
      else
        .next (State.setR { s with flags := { s.flags with q := s.flags.q || sat } } f.rd
          (BitVec.ofInt 32 (saturate32 v))).next4
    exec (.f32QaddSat f) s = out (m + n) (!fits32 (m + n)) ∧
    exec (.f32QsubSat f) s = out (m - n) (!fits32 (m - n)) ∧
    exec (.f32QdaddSat f) s = out (m + d) (!fits32 (2 * n) || !fits32 (m + d)) ∧
    exec (.f32QdsubSat f) s = out (m - d) (!fits32 (2 * n) || !fits32 (m - d))

/-- `MRS` reads the flags, a clear T bit and the privilege level; `MSR` writes the five flags and nothing else, when its
mask selects the flags field (43_f32_data_processing.md section 5). The immediate forms that are the family's yield,
wait-for-event, wait-for-interrupt and send-event raise `Undefined` (30_encoding.md section 5, decision D49, P18 of
93_implementation_defined.md); that these are the words with an empty mask, no rotation and `imm8` 1 to 4, and no others,
is the model's choice (log entry 26). -/
def Obligations.StatusRegisterAccess : Prop :=
  (∀ (f : F32.MRS) (s : State), s.passes f.cond → s.mode = .f32 →
    exec (.f32MrsMisc f) s =
      if f.rd = 15 then .next { s with raised := some ⟨.undef, s.pc, none⟩ }
      else .next (s.setR f.rd (
        (if s.flags.n then 0x80000000 else 0) ||| (if s.flags.z then 0x40000000 else 0) |||
        (if s.flags.c then 0x20000000 else 0) ||| (if s.flags.v then 0x10000000 else 0) |||
        (if s.flags.q then 0x08000000 else 0) ||| (if s.priv = .user then 0b10000 else 0b10011))).next4) ∧
  (∀ (f : F32.MSR) (s : State), s.passes f.cond →
    let v := s.rF f.rm
    exec (.f32MsrMisc f) s =
      if f.rm = 15 then .next { s with raised := some ⟨.undef, s.pc, none⟩ }
      else .next (State.next4 { s with flags :=
        if f.fmask[3] then ⟨v[31], v[30], v[29], v[28], v[27]⟩ else s.flags })) ∧
  (∀ (f : F32.MSRI) (s : State), s.passes f.cond →
    let v := (s.op2 (.imm f.rot f.imm8)).value
    exec (.f32MsrMsri f) s =
      if f.fmask = 0 ∧ f.rot = 0 ∧ f.imm8 ∈ [1, 2, 3, 4] then .next { s with raised := some ⟨.undef, s.pc, none⟩ }
      else .next (State.next4 { s with flags :=
        if f.fmask[3] then ⟨v[31], v[30], v[29], v[28], v[27]⟩ else s.flags }))

/-! ### F32 loads and stores -/

/-- The address forms of the F32 single-register accesses, loads and stores alike: the offset `imm12`, `imm8`, `Rm`, or
`Rm` shifted by an immediate, added if `U` is set and subtracted if not, before the access if `P` is set and after it
if not, the sum written back if `P` is clear or `W` is set; the user-access forms are post-indexed
(42_addressing_modes.md section 1). And the single-register loads: the register takes the bytes at the resolved address,
zero- or sign-extended, after the base is written back; the user-access forms ask the port as user; a word loaded for
register 15 goes to `BranchExchange` (44_f32_load_store.md sections 1 to 4). -/
def Obligations.SingleLoads : Prop :=
  ∀ s : State,
    (let by' (u : Bool) (k : ShiftKind) (rm : Fin 16) (n : BitVec 5) : Int :=
       signedBy u (shiftImm k (s.rF rm) n s.flags.c).value.toNat
     (∀ f : F32.LSI,
       AddressesAs (addrLsi f) s f.rn false (signedBy f.u f.imm12.toNat) f.p (!f.p || f.w)) ∧
     (∀ f : F32.LSR,
       AddressesAs (addrLsr f s) s f.rn (f.rm == 15) (by' f.u f.stype f.rm f.shamt) f.p (!f.p || f.w)) ∧
     (∀ f : F32.LSHI,
       AddressesAs (addrLshi f) s f.rn false (signedBy f.u f.imm8.toNat) f.p (!f.p || f.w)) ∧
     (∀ f : F32.LSHR,
       AddressesAs (addrLshr f s) s f.rn (f.rm == 15) (signedBy f.u (s.rF f.rm).toNat) f.p (!f.p || f.w)) ∧
     (∀ f : F32.LSIT, AddressesAs (addrLsit f) s f.rn false (signedBy f.u f.imm12.toNat) false true) ∧
     (∀ f : F32.LSRT, AddressesAs (addrLsrt f s) s f.rn (f.rm == 15) (by' f.u f.stype f.rm f.shamt) false true)) ∧
    (∀ f : F32.LSI, s.passes f.cond →
      LoadsAs (.f32LdrLsi f) s (addrLsi f) s.priv 4 (BitVec.ofNat 32) f.rd ∧
      LoadsAs (.f32LdrbLsi f) s (addrLsi f) s.priv 1 (BitVec.ofNat 32) f.rd ∧
      (f.rd = 15 → ((addrLsi f).wback = true → f.rn ≠ 15) →
        s.canRead32 s.priv ((addrLsi f).resolve s).address 4 →
        exec (.f32LdrLsi f) s = .next ((s.writeBack32 f.rn ((addrLsi f).resolve s).newBase).branchExchange
          (BitVec.ofNat 32 (s.narrowAt ((addrLsi f).resolve s).address 4))))) ∧
    (∀ f : F32.LSR, s.passes f.cond →
      LoadsAs (.f32LdrLsr f) s (addrLsr f s) s.priv 4 (BitVec.ofNat 32) f.rd ∧
      LoadsAs (.f32LdrbLsr f) s (addrLsr f s) s.priv 1 (BitVec.ofNat 32) f.rd ∧
      (f.rd = 15 → f.rm ≠ 15 → ((addrLsr f s).wback = true → f.rn ≠ 15) →
        s.canRead32 s.priv ((addrLsr f s).resolve s).address 4 →
        exec (.f32LdrLsr f) s = .next ((s.writeBack32 f.rn ((addrLsr f s).resolve s).newBase).branchExchange
          (BitVec.ofNat 32 (s.narrowAt ((addrLsr f s).resolve s).address 4))))) ∧
    (∀ f : F32.LSHI, s.passes f.cond →
      LoadsAs (.f32LdrhLshi f) s (addrLshi f) s.priv 2 (BitVec.ofNat 32) f.rd ∧
      LoadsAs (.f32LdrsbLshi f) s (addrLshi f) s.priv 1 (signedBytes 32 1) f.rd ∧
      LoadsAs (.f32LdrshLshi f) s (addrLshi f) s.priv 2 (signedBytes 32 2) f.rd) ∧
    (∀ f : F32.LSHR, s.passes f.cond →
      LoadsAs (.f32LdrhLshr f) s (addrLshr f s) s.priv 2 (BitVec.ofNat 32) f.rd ∧
      LoadsAs (.f32LdrsbLshr f) s (addrLshr f s) s.priv 1 (signedBytes 32 1) f.rd ∧
      LoadsAs (.f32LdrshLshr f) s (addrLshr f s) s.priv 2 (signedBytes 32 2) f.rd) ∧
    (∀ f : F32.LSIT, s.passes f.cond →
      LoadsAs (.f32LdrtLsi f) s (addrLsit f) .user 4 (BitVec.ofNat 32) f.rd ∧
      LoadsAs (.f32LdrbtLsi f) s (addrLsit f) .user 1 (BitVec.ofNat 32) f.rd) ∧
    (∀ f : F32.LSRT, s.passes f.cond →
      LoadsAs (.f32LdrtLsr f) s (addrLsrt f s) .user 4 (BitVec.ofNat 32) f.rd ∧
      LoadsAs (.f32LdrbtLsr f) s (addrLsrt f s) .user 1 (BitVec.ofNat 32) f.rd)

/-- The single-register stores: the low bytes of the register as it was before the instruction go to the resolved
address, in the byte order of the machine, then the base is written back; no other byte and no other register changes.
`STR` of register 15 stores `ia + PC_STORE_OFFSET` (44_f32_load_store.md sections 1 to 4). -/
def Obligations.SingleStores : Prop :=
  ∀ s : State,
    (∀ f : F32.LSI, s.passes f.cond →
      StoresAs (.f32StrLsi f) s (addrLsi f) s.priv 4
        (if f.rd = 15 then s.ia32 + s.cfg.pcStoreOffset.toWord else s.rF f.rd) ∧
      (f.rd ≠ 15 → StoresAs (.f32StrbLsi f) s (addrLsi f) s.priv 1 (s.rF f.rd))) ∧
    (∀ f : F32.LSR, s.passes f.cond →
      StoresAs (.f32StrLsr f) s (addrLsr f s) s.priv 4
        (if f.rd = 15 then s.ia32 + s.cfg.pcStoreOffset.toWord else s.rF f.rd) ∧
      (f.rd ≠ 15 → StoresAs (.f32StrbLsr f) s (addrLsr f s) s.priv 1 (s.rF f.rd))) ∧
    (∀ f : F32.LSHI, s.passes f.cond → f.rd ≠ 15 →
      StoresAs (.f32StrhLshi f) s (addrLshi f) s.priv 2 (s.rF f.rd)) ∧
    (∀ f : F32.LSHR, s.passes f.cond → f.rd ≠ 15 →
      StoresAs (.f32StrhLshr f) s (addrLshr f s) s.priv 2 (s.rF f.rd)) ∧
    (∀ f : F32.LSIT, s.passes f.cond → f.rd ≠ 15 →
      StoresAs (.f32StrtLsi f) s (addrLsit f) .user 4 (s.rF f.rd) ∧
      StoresAs (.f32StrbtLsi f) s (addrLsit f) .user 1 (s.rF f.rd)) ∧
    (∀ f : F32.LSRT, s.passes f.cond → f.rd ≠ 15 →
      StoresAs (.f32StrtLsr f) s (addrLsrt f s) .user 4 (s.rF f.rd) ∧
      StoresAs (.f32StrbtLsr f) s (addrLsrt f s) .user 1 (s.rF f.rd))

/-- A data request that the port refuses, after the requests before it were answered, raises `DataAbort` with its address,
direction and size, in every instruction that makes one: nothing is written but the pending raise and the bytes of the
writes before it (60_exceptions.md section 2, 20_memory.md section 6). Under `MISALIGNED = abort` every address that is
no multiple of the size is refused (20_memory.md section 4). -/
def Obligations.RefusedRequestsAbort : Prop :=
  (∀ (i : Instr) (s : State) (before : List Request) (q : Request) (after : List Request),
    Memory.wf s.mem = true → requests i s = before ++ q :: after → (∀ p ∈ before, s.refuses p = false) →
    s.refuses q = true →
      ∃ m, exec i s = .next { s with mem := m, raised := some ⟨.dataAbort, s.pc, some q.access⟩ } ∧
        ReadsAs m (writtenOver s.cfg.endian (addrBits i) (Memory.get s.mem) before)) ∧
  (∀ (s : State) (q : Request), s.cfg.misaligned = .abort → q.addr.toNat % q.size ≠ 0 → s.refuses q = true)

/-- `LDRD` reads two words and writes the even register and the next one, after the base; `STRD` stores the two
registers at rising addresses and no other byte changes (44_f32_load_store.md section 3). -/
def Obligations.DoublewordTransfers : Prop :=
  ∀ s : State,
    (∀ f : F32.LSHI, s.passes f.cond → f.rd.val % 2 = 0 → f.rd ≠ 14 →
      LoadsPair (.f32LdrdLshi f) s (addrLshi f) f.rd ∧ StoresPair (.f32StrdLshi f) s (addrLshi f) f.rd) ∧
    (∀ f : F32.LSHR, s.passes f.cond → f.rd.val % 2 = 0 → f.rd ≠ 14 →
      LoadsPair (.f32LdrdLshr f) s (addrLshr f s) f.rd ∧ StoresPair (.f32StrdLshr f) s (addrLshr f s) f.rd)

/-- `LDM`: each listed register takes the word at its place, the lowest register the lowest address; a loaded base wins
over the writeback; a word loaded for register 15 goes to `BranchExchange`; nothing else changes
(42_addressing_modes.md section 2, 44_f32_load_store.md section 5). `UndefinedForms` covers the
forms with `S = 1` that do not complete (log entry 8). -/
def Obligations.LoadMultiple : Prop :=
  ∀ (f : F32.LSM) (s : State), s.passes f.cond → f.rn ≠ 15 → f.reglist ≠ 0 →
    (f.s = true → s.priv = .privileged ∧ f.w = false ∧ f.reglist[15] = false) →
    let n := listSize f.reglist
    let start := multiStart (s.rF f.rn) n f.p f.u
    let word (i : Nat) : Word := BitVec.ofNat 32 (s.narrowAt (slotAddr f.reglist start i) 4)
    (∀ i : Fin 16, f.reglist[i] = true → s.canRead32 s.priv (slotAddr f.reglist start i) 4) →
    ∃ t : State, exec (.f32LdmLsm f) s = .next (if f.reglist[15] then t.branchExchange (word 15) else t.next4) ∧
      t = { s with r := t.r } ∧
      ∀ i : Fin 15, t.r[i] =
        if f.reglist[i.val]'(by omega) then word i
        else if f.w = true ∧ f.rn.val = i.val then multiBase (s.rF f.rn) n f.u else s.r[i]

/-- `STM`: the listed registers, with the values before the instruction, go to rising addresses, then the base is
written back; no other byte and no other register changes (42_addressing_modes.md section 2,
44_f32_load_store.md section 5). `UndefinedForms` covers the
forms with `S = 1` that do not complete (log entry 8). -/
def Obligations.StoreMultiple : Prop :=
  ∀ (f : F32.LSM) (s : State), s.passes f.cond → f.rn ≠ 15 → f.reglist ≠ 0 →
    (f.s = true → s.priv = .privileged ∧ f.w = false) → Memory.wf s.mem = true →
    let n := listSize f.reglist
    let start := multiStart (s.rF f.rn) n f.p f.u
    (∀ i : Fin 16, f.reglist[i] = true → s.canWrite32 s.priv (slotAddr f.reglist start i) 4) →
    ∃ m, exec (.f32StmLsm f) s =
        .next (State.writeBack32 { s with mem := m } f.rn
          (if f.w then some (multiBase (s.rF f.rn) n f.u) else none)).next4 ∧
      ReadsAs m (storedWords (Memory.get s.mem) s.cfg.endian start
        ((listed f.reglist).map fun i => if i = 15 then s.ia32 + s.cfg.pcStoreOffset.toWord else s.rF i))

/-- `SWP` and `SWPB` under a free lock: the old memory value goes to `Rd`, the old `Rm` to memory, the lock is free
again; while another context holds the lock the instruction makes no progress (44_f32_load_store.md section 6,
20_memory.md section 7). That waiting is a step that changes nothing is the model's reading (log entry 7). -/
def Obligations.SwapInstructions : Prop :=
  ∀ (f : F32.SWP) (s : State), s.passes f.cond → f.rd ≠ 15 → f.rm ≠ 15 → f.rn ≠ 15 →
    let a := s.rF f.rn
    let swaps (i : Instr) (n : Nat) : Prop :=
      (s.lock = .held → exec i s = .next s) ∧
      (s.lock = .free → Memory.wf s.mem = true → s.canRead32 s.priv a n → s.canWrite32 s.priv a n →
        ∃ m, exec i s = .next (State.setR { s with mem := m } f.rd (BitVec.ofNat 32 (s.narrowAt a n))).next4 ∧
          ReadsAs m (storedOver (Memory.get s.mem) s.cfg.endian 32 a.toNat n (s.rF f.rm).toNat))
    swaps (.f32SwpSwp f) 4 ∧ swaps (.f32SwpbSwp f) 1

/-! ### F32 branches and privileged-state registers -/

/-- The five F32 branches: the target from `ia + 8` in integer arithmetic, the link register `ia + 4`, the exchange on a
register target read before the link is written (45_f32_branch_system.md section 2). -/
def Obligations.BranchesF32 : Prop :=
  ∀ s : State,
    let target (imm24 : BitVec 24) : Word := BitVec.ofInt 32 (s.ia32.toNat + 8 + 4 * imm24.toInt)
    (∀ f : F32.BR, s.passes f.cond →
      exec (.f32BBr f) s = .next { s with pc := (target f.imm24).setWidth 64 } ∧
      exec (.f32BlBr f) s = .next { s.setR 14 (s.ia32 + 4) with pc := (target f.imm24).setWidth 64 }) ∧
    (∀ f : F32.BXR, s.passes f.cond →
      exec (.f32BxMisc f) s = .next (s.branchExchange (s.rF f.rm)) ∧
      exec (.f32BlxMisc f) s = .next (
        if f.rm = 15 then { s with raised := some ⟨.undef, s.pc, none⟩ }
        else (s.setR 14 (s.ia32 + 4)).branchExchange (s.rF f.rm))) ∧
    (∀ f : F32.BLXI, exec (.f32BlxBlxi f) s = .next
      { s.setR 14 (s.ia32 + 4) with
        mode := .c16
        pc := (target f.imm24 + (if f.h then 2 else 0)).setWidth 64 })

/-- `SYSR` reads a configured readable cell; `SYSW` replaces the masked bits of a configured writable cell and no other
cell; a key with no cell, a cell without the access, and register 15 raise `Undefined`
(45_f32_branch_system.md section 3). The spec's map has one cell for a key; that of several cells of the list with one
key the first is the one is the model's choice (log entry 19). -/
def Obligations.PrivilegedStateRegisters : Prop :=
  ∀ (f : F32.SYS) (s : State), s.passes f.cond → s.priv = .privileged →
    let key (c : SysCell) : Bool := c.opc1 == f.opc1 && c.crn == f.crn && c.crm == f.crm && c.opc2 == f.opc2
    (f.rt = 15 ∨ (∀ c ∈ s.sysRegs, key c = false) →
      exec (.f32SysrSys f) s = .next { s with raised := some ⟨.undef, s.pc, none⟩ } ∧
      exec (.f32SyswSys f) s = .next { s with raised := some ⟨.undef, s.pc, none⟩ }) ∧
    (∀ before c after, f.rt ≠ 15 → s.sysRegs = before ++ c :: after → key c = true → (∀ d ∈ before, key d = false) →
      exec (.f32SysrSys f) s =
        (if c.readable then .next (s.setR f.rt c.value).next4
          else .next { s with raised := some ⟨.undef, s.pc, none⟩ }) ∧
      ∃ v, exec (.f32SyswSys f) s =
        (if c.writable then .next (State.next4 { s with sysRegs := before ++ { c with value := v } :: after })
          else .next { s with raised := some ⟨.undef, s.pc, none⟩ }) ∧
        ∀ j : Fin 32, v[j] = if c.mask[j] then (s.rF f.rt)[j] else c.value[j])

/-! ### Vector lanes -/

/-- `VADD`, `VSUB`, `VSHR`, `VRSHR`, `VMULH`, `VRMULH`: each result lane in integer arithmetic; no status bit changes
(46_vector_instructions.md sections 2 to 4, 41_lane_semantics.md sections 3 and 4). -/
def Obligations.LaneArithmetic : Prop :=
  ∀ (f : F32.VOP) (s : State), s.passes f.cond → s.lanesOn →
    let w := 8 * 2 ^ f.sz.toNat
    let writes (i : Instr) (v : Nat → Int) : Prop :=
      ∃ c : DWord, exec i s = .next (s.setV f.vd c).next4 ∧ ∀ j, j < 64 / w → (lane c w j : Int) = v j % 2 ^ w
    let a := s.laneInt f.vn w (!f.u)
    let b := s.laneInt f.vm w (!f.u)
    let amount (j : Nat) : Int := ((BitVec.ofNat 8 (s.laneOf f.vm w j)).toInt)
    let shifted (bias : Bool) (j : Nat) : Int :=
      if amount j = 0 then a j
      else if amount j < 0 then a j * 2 ^ (-amount j).toNat
      else (a j + (if bias then 2 ^ ((amount j).toNat - 1) else 0)) / 2 ^ (amount j).toNat
    (f.u = false →
      writes (.f32VaddVop f) (fun j => a j + b j) ∧ writes (.f32VsubVop f) (fun j => a j - b j)) ∧
    (writes (.f32VshrVop f) (shifted false) ∧ writes (.f32VrshrVop f) (shifted true)) ∧
    (f.sz ≠ 3 →
      writes (.f32VmulhVop f) (fun j => a j * b j / 2 ^ w) ∧
      writes (.f32VrmulhVop f) (fun j => (a j * b j + 2 ^ (w - 1)) / 2 ^ w))

/-- `VQADD`, `VQSUB`, `VQPACK`: each result lane is the nearest value of its range; `VSAT` gains a bit for each clamped
lane, `Q` is set if there is one, and both keep what they had (46_vector_instructions.md sections 2 and 5,
41_lane_semantics.md sections 2 and 5). -/
def Obligations.LaneSaturation : Prop :=
  ∀ (f : F32.VOP) (s : State), s.passes f.cond → s.lanesOn →
    let w := 8 * 2 ^ f.sz.toNat
    let g := !f.u
    let writes (i : Instr) (w : Nat) (v : Nat → Int) : Prop :=
      ∃ (c : DWord) (m : BitVec 8),
        exec i s = .next (State.next4 { s.setV f.vd c with
          vstat := { s.vstat with sat := s.vstat.sat ||| m }
          flags := { s.flags with q := s.flags.q || decide (m ≠ 0) } }) ∧
        (∀ j, j < 64 / w → laneVal w g (lane c w j) = nearest w g (v j) ∧ m.getLsbD j = overflows w g (v j)) ∧
        (∀ j, 64 / w ≤ j → m.getLsbD j = false)
    writes (.f32VqaddVop f) w (fun j => s.laneInt f.vn w g j + s.laneInt f.vm w g j) ∧
    writes (.f32VqsubVop f) w (fun j => s.laneInt f.vn w g j - s.laneInt f.vm w g j) ∧
    (f.sz ≠ 0 → writes (.f32VqpackVop f) (w / 2) (fun j =>
      if j < 64 / w then s.laneInt f.vn w g j else s.laneInt f.vm w g (j - 64 / w)))

/-- `VMULLB`, `VMULLT`, `VDOT`, `VDOTA`, `VUNPKB`, `VUNPKT`: result lanes twice as wide as the source lanes, exact and
reduced to their width (46_vector_instructions.md sections 4 and 5, 41_lane_semantics.md sections 4 and 5). -/
def Obligations.LaneWidening : Prop :=
  ∀ (f : F32.VOP) (s : State), s.passes f.cond → s.lanesOn → f.sz ≠ 3 →
    let w := 8 * 2 ^ f.sz.toNat
    let h := 64 / w / 2
    let a := s.laneInt f.vn w (!f.u)
    let b := s.laneInt f.vm w (!f.u)
    let writes (i : Instr) (v : Nat → Int) : Prop :=
      ∃ c : DWord, exec i s = .next (s.setV f.vd c).next4 ∧
        ∀ j, j < h → (lane c (2 * w) j : Int) = v j % 2 ^ (2 * w)
    let dot (j : Nat) : Int := a (2 * j) * b (2 * j) + a (2 * j + 1) * b (2 * j + 1)
    writes (.f32VmullbVop f) (fun j => a j * b j) ∧
    writes (.f32VmulltVop f) (fun j => a (j + h) * b (j + h)) ∧
    writes (.f32VdotVop f) dot ∧
    writes (.f32VdotaVop f) (fun j => s.laneOf f.vd (2 * w) j + dot j) ∧
    (f.vm = 0 → writes (.f32VunpkbVop f) a ∧ writes (.f32VunpktVop f) (fun j => a (j + h)))

/-- `VPACK`, `VZIPB`, `VZIPT`, `VAND`, `VORR`, `VEOR`: lanes truncated, interleaved, or combined bit by bit; no status
bit changes (46_vector_instructions.md sections 5 and 6, 41_lane_semantics.md section 5). -/
def Obligations.LaneRearrangement : Prop :=
  ∀ (f : F32.VOP) (s : State), s.passes f.cond → s.lanesOn → f.u = false →
    let w := 8 * 2 ^ f.sz.toNat
    let n := 64 / w
    (f.sz ≠ 0 → ∃ c : DWord, exec (.f32VpackVop f) s = .next (s.setV f.vd c).next4 ∧
      ∀ j, j < 2 * n → lane c (w / 2) j = (if j < n then s.laneOf f.vn w j else s.laneOf f.vm w (j - n)) % 2 ^ (w / 2)) ∧
    (f.sz ≠ 3 →
      (∃ c : DWord, exec (.f32VzipbVop f) s = .next (s.setV f.vd c).next4 ∧
        ∀ j, j < n / 2 → lane c w (2 * j) = s.laneOf f.vn w j ∧ lane c w (2 * j + 1) = s.laneOf f.vm w j) ∧
      (∃ c : DWord, exec (.f32VziptVop f) s = .next (s.setV f.vd c).next4 ∧
        ∀ j, j < n / 2 →
          lane c w (2 * j) = s.laneOf f.vn w (n / 2 + j) ∧ lane c w (2 * j + 1) = s.laneOf f.vm w (n / 2 + j))) ∧
    (f.sz = 0 →
      exec (.f32VandVop f) s = .next (s.setV f.vd (s.vec[f.vn] &&& s.vec[f.vm])).next4 ∧
      exec (.f32VorrVop f) s = .next (s.setV f.vd (s.vec[f.vn] ||| s.vec[f.vm])).next4 ∧
      exec (.f32VeorVop f) s = .next (s.setV f.vd (s.vec[f.vn] ^^^ s.vec[f.vm])).next4)

/-- `VCEQ`, `VCGT`, `VCGE`: a true lane is all ones and a false one zero, `VPRED` holds the truth of every lane and 0
above, and nothing else changes (46_vector_instructions.md section 7, 41_lane_semantics.md section 6). -/
def Obligations.LaneCompares : Prop :=
  ∀ (f : F32.VOP) (s : State), s.passes f.cond → s.lanesOn →
    let w := 8 * 2 ^ f.sz.toNat
    let a := s.laneInt f.vn w (!f.u)
    let b := s.laneInt f.vm w (!f.u)
    let writes (i : Instr) (test : Nat → Bool) : Prop :=
      ∃ (c : DWord) (p : BitVec 8),
        exec i s = .next (State.next4 { s.setV f.vd c with vstat := { s.vstat with pred := p } }) ∧
        (∀ j, j < 64 / w → lane c w j = (if test j then 2 ^ w - 1 else 0) ∧ p.getLsbD j = test j) ∧
        (∀ j, 64 / w ≤ j → p.getLsbD j = false)
    (f.u = false → writes (.f32VceqVop f) (fun j => decide (a j = b j))) ∧
    writes (.f32VcgtVop f) (fun j => decide (b j < a j)) ∧
    writes (.f32VcgeVop f) (fun j => decide (b j ≤ a j))

/-- The seven float compares at single and double width, by the relation of `FCompare`: masks and `VPRED` for five of
them, the absolute-value pair with the sign bits cleared, the condition flags for `VFCMP` and `VFCMPE`; an invalid
operand sets `IOC` and nothing traps (46_vector_instructions.md section 8). -/
def Obligations.FloatCompares : Prop :=
  ∀ (f : F32.VOP) (s : State), s.passes f.cond → s.lanesOn → f.u = false → 2 ≤ f.sz.toNat →
    let w := 8 * 2 ^ f.sz.toNat
    let a := s.laneOf f.vn w
    let b := s.laneOf f.vm w
    let writes (i : Instr) (cmp : Nat → FloatRel × Bool) (test : FloatRel → Bool) : Prop :=
      ∃ (c : DWord) (p : BitVec 8) (inv : Bool),
        exec i s = .next (State.next4 { s.setV f.vd c with
          vstat := { s.vstat with pred := p, ioc := s.vstat.ioc || inv } }) ∧
        (∀ j, j < 64 / w → lane c w j = (if test (cmp j).1 then 2 ^ w - 1 else 0) ∧ p.getLsbD j = test (cmp j).1) ∧
        (∀ j, 64 / w ≤ j → p.getLsbD j = false) ∧
        (inv = true ↔ ∃ j, j < 64 / w ∧ (cmp j).2 = true)
    let flags (i : Instr) (quiet : Bool) : Prop :=
      exec i s = .next (State.next4 { s with
        vstat := { s.vstat with ioc := s.vstat.ioc || (floatCompare w quiet (a 0) (b 0)).2 }
        flags := match (floatCompare w quiet (a 0) (b 0)).1 with
          | .equal => ⟨false, true, true, false, s.flags.q⟩
          | .less => ⟨true, false, false, false, s.flags.q⟩
          | .greater => ⟨false, false, true, false, s.flags.q⟩
          | .unordered => ⟨false, false, true, true, s.flags.q⟩ })
    writes (.f32VfceqVop f) (fun j => floatCompare w true (a j) (b j)) (fun r => r == .equal) ∧
    writes (.f32VfcgeVop f) (fun j => floatCompare w false (a j) (b j)) (fun r => r == .equal || r == .greater) ∧
    writes (.f32VfcgtVop f) (fun j => floatCompare w false (a j) (b j)) (fun r => r == .greater) ∧
    writes (.f32VfacgeVop f) (fun j => floatCompare w false (a j % 2 ^ (w - 1)) (b j % 2 ^ (w - 1)))
      (fun r => r == .equal || r == .greater) ∧
    writes (.f32VfacgtVop f) (fun j => floatCompare w false (a j % 2 ^ (w - 1)) (b j % 2 ^ (w - 1)))
      (fun r => r == .greater) ∧
    (f.vd = 0 → flags (.f32VfcmpVop f) true ∧ flags (.f32VfcmpeVop f) false)

/-- The vector transfers: `VMOVTV` joins two registers, `VMOVFV` splits a cell, `VMRS` and `VMSR` read and write the four
control registers with their masks, `VLDR` and `VSTR` make one access of eight bytes at the base plus or minus four times
`imm8`, applied before or after the access, and then write the base back, a store changing no other byte
(46_vector_instructions.md sections 9 to 11). -/
def Obligations.VectorTransfers : Prop :=
  (∀ s : State,
     (∀ f : F32.VXFER, s.passes f.cond → s.vstat.en = true → f.rt ≠ 15 → f.rt2 ≠ 15 →
       exec (.f32VmovtvVxfer f) s = .next (s.setV f.vm
         (BitVec.ofNat 64 ((s.rF f.rt2).toNat * 2 ^ 32 + (s.rF f.rt).toNat))).next4 ∧
       (f.rt ≠ f.rt2 → exec (.f32VmovfvVxfer f) s = .next ((s.setR f.rt
         (BitVec.ofNat 32 s.vec[f.vm].toNat)).setR f.rt2 (BitVec.ofNat 32 (s.vec[f.vm].toNat / 2 ^ 32))).next4)) ∧
     (∀ f : F32.VCTL, s.passes f.cond → f.rt ≠ 15 → f.vcn = 0 →
       exec (.f32VmrsVctl f) s = .next (s.setR f.rt (if s.vstat.en then 1 else 0)).next4 ∧
       (s.priv = .privileged →
         exec (.f32VmsrVctl f) s = .next (State.next4 { s with vstat := { s.vstat with en := (s.rF f.rt)[0] } }))) ∧
     (∀ f : F32.VCTL, s.passes f.cond → f.rt ≠ 15 → s.vstat.en = true →
       (f.vcn = 1 →
         exec (.f32VmrsVctl f) s = .next (s.setR f.rt (BitVec.ofNat 32
           ((if s.vstat.ioc then 1 else 0) + s.vstat.len.toNat * 256 + s.vstat.stride.toNat * 4096))).next4 ∧
         exec (.f32VmsrVctl f) s = .next (State.next4 { s with vstat := { s.vstat with
           ioc := (s.rF f.rt)[0]
           len := BitVec.ofNat 3 ((s.rF f.rt).toNat / 256)
           stride := BitVec.ofNat 2 ((s.rF f.rt).toNat / 4096) } })) ∧
       (f.vcn = 2 →
         exec (.f32VmrsVctl f) s = .next (s.setR f.rt (BitVec.ofNat 32 s.vstat.sat.toNat)).next4 ∧
         exec (.f32VmsrVctl f) s = .next (State.next4 { s with vstat := { s.vstat with
           sat := BitVec.ofNat 8 (s.rF f.rt).toNat } })) ∧
       (f.vcn = 3 →
         exec (.f32VmrsVctl f) s = .next (s.setR f.rt (BitVec.ofNat 32 s.vstat.pred.toNat)).next4 ∧
         exec (.f32VmsrVctl f) s = .next (State.next4 { s with vstat := { s.vstat with
           pred := BitVec.ofNat 8 (s.rF f.rt).toNat } })) ∧
       (3 < f.vcn.toNat →
         exec (.f32VmrsVctl f) s = .next { s with raised := some ⟨.undef, s.pc, none⟩ } ∧
         exec (.f32VmsrVctl f) s = .next { s with raised := some ⟨.undef, s.pc, none⟩ }))) ∧
  (∀ (f : F32.VLS) (s : State), s.passes f.cond → s.vstat.en = true → (f.w = true → f.rn ≠ 15) →
     let q := vlsAddr f s
     q = offsetFrom (s.rF f.rn) (signedBy f.u (4 * f.imm8.toNat)) f.p f.w ∧
     (s.canRead32 s.priv q.address 8 →
       exec (.f32VldrVls f) s =
         .next ((s.setV f.vd (BitVec.ofNat 64 (s.narrowAt q.address 8))).writeBack32 f.rn q.newBase).next4) ∧
     (Memory.wf s.mem = true → s.canWrite32 s.priv q.address 8 →
       ∃ m, exec (.f32VstrVls f) s = .next (State.writeBack32 { s with mem := m } f.rn q.newBase).next4 ∧
         ReadsAs m (storedOver (Memory.get s.mem) s.cfg.endian 32 q.address.toNat 8 (s.vec[f.vd]).toNat)))


/-! ### C16 -/

/-- The C16 shifts and logical operations in a slot that runs: the result in the register, the flags outside a group only
(`TST` always), `C` from the shifter for the shifts and kept by the others, `V` kept (47_c16_compact.md sections 2
and 3). -/
def Obligations.LogicalC16 : Prop :=
  ∀ s : State, s.slotRuns →
    let c := s.flags.c
    let out (rd : Fin 8) (res : Word) (carry : Bool) : Host.Outcome State Fault Refusal :=
      .next (State.setR { s with flags := s.flagsS (bitFlags s.flags res carry) } (low rd) res).finish2
    let shift (rd : Fin 8) (q : Shifted) : Host.Outcome State Fault Refusal := out rd q.value q.carry
    (∀ f : C16.SHI,
      exec (.c16LslsShi f) s = shift f.rd (shiftImm .lsl (s.lo f.rm) f.imm5 c) ∧
      exec (.c16LsrsShi f) s = shift f.rd (shiftImm .lsr (s.lo f.rm) f.imm5 c) ∧
      exec (.c16AsrsShi f) s = shift f.rd (shiftImm .asr (s.lo f.rm) f.imm5 c)) ∧
    (∀ f : C16.I8, exec (.c16MovsI8 f) s = out f.rd (BitVec.ofNat 32 f.imm8.toNat) c) ∧
    (∀ f : C16.ALU,
      let a := s.lo f.rdn
      let b := s.lo f.rm
      let amt := BitVec.ofNat 8 b.toNat
      exec (.c16LslsAlu f) s = shift f.rdn (shiftReg .lsl a amt c) ∧
      exec (.c16LsrsAlu f) s = shift f.rdn (shiftReg .lsr a amt c) ∧
      exec (.c16AsrsAlu f) s = shift f.rdn (shiftReg .asr a amt c) ∧
      exec (.c16RorsAlu f) s = shift f.rdn (shiftReg .ror a amt c) ∧
      exec (.c16AndsAlu f) s = out f.rdn (a &&& b) c ∧
      exec (.c16EorsAlu f) s = out f.rdn (a ^^^ b) c ∧
      exec (.c16OrrsAlu f) s = out f.rdn (a ||| b) c ∧
      exec (.c16BicsAlu f) s = out f.rdn (a &&& ~~~b) c ∧
      exec (.c16MvnsAlu f) s = out f.rdn (~~~b) c ∧
      exec (.c16MulsAlu f) s = out f.rdn (BitVec.ofNat 32 (a.toNat * b.toNat)) c ∧
      exec (.c16TstAlu f) s = .next (State.finish2 { s with flags := bitFlags s.flags (a &&& b) c }))

/-- The C16 sums, differences and compares in a slot that runs: exact integers reduced to 32 bits, the arithmetic flags
outside a group only, and always for the compares, which write no register; `CMP` of a high form with register 15
raises `Undefined` (47_c16_compact.md sections 2 to 4). -/
def Obligations.ArithmeticC16 : Prop :=
  ∀ s : State, s.slotRuns →
    let c := s.flags.c.toNat
    let sum (rd : Fin 8) (x y : Word) (c : Nat) : Host.Outcome State Fault Refusal :=
      .next (State.setR { s with flags := s.flagsS (sumFlags s.flags x y c) } (low rd) (sumBits x y c)).finish2
    let diff (rd : Fin 8) (x y : Word) (b : Nat) : Host.Outcome State Fault Refusal :=
      .next (State.setR { s with flags := s.flagsS (diffFlags s.flags x y b) } (low rd) (diffBits x y b)).finish2
    let flags (f : Flags) : Host.Outcome State Fault Refusal := .next (State.finish2 { s with flags := f })
    (∀ f : C16.AS3,
      exec (.c16AddsAs3 f) s = sum f.rd (s.lo f.rn) (s.lo f.rm) 0 ∧
      exec (.c16SubsAs3 f) s = diff f.rd (s.lo f.rn) (s.lo f.rm) 0) ∧
    (∀ f : C16.AS3I,
      exec (.c16AddsAs3i f) s = sum f.rd (s.lo f.rn) (BitVec.ofNat 32 f.imm3.toNat) 0 ∧
      exec (.c16SubsAs3i f) s = diff f.rd (s.lo f.rn) (BitVec.ofNat 32 f.imm3.toNat) 0) ∧
    (∀ f : C16.I8,
      exec (.c16AddsI8 f) s = sum f.rd (s.lo f.rd) (BitVec.ofNat 32 f.imm8.toNat) 0 ∧
      exec (.c16SubsI8 f) s = diff f.rd (s.lo f.rd) (BitVec.ofNat 32 f.imm8.toNat) 0 ∧
      exec (.c16CmpI8 f) s = flags (diffFlags s.flags (s.lo f.rd) (BitVec.ofNat 32 f.imm8.toNat) 0)) ∧
    (∀ f : C16.ALU,
      exec (.c16AdcsAlu f) s = sum f.rdn (s.lo f.rdn) (s.lo f.rm) c ∧
      exec (.c16SbcsAlu f) s = diff f.rdn (s.lo f.rdn) (s.lo f.rm) (1 - c) ∧
      exec (.c16NegsAlu f) s = diff f.rdn 0 (s.lo f.rm) 0 ∧
      exec (.c16CmpAlu f) s = flags (diffFlags s.flags (s.lo f.rdn) (s.lo f.rm) 0) ∧
      exec (.c16CmnAlu f) s = flags (sumFlags s.flags (s.lo f.rdn) (s.lo f.rm) 0)) ∧
    (∀ f : C16.HI, exec (.c16CmpHi f) s =
      if f.d = 15 ∨ f.rm = 15 then .next { s with raised := some ⟨.undef, s.pc, none⟩ }
      else flags (diffFlags s.flags (s.rC f.d) (s.rC f.rm) 0))

/-- The C16 moves and address forms, the hint and the group start in a slot that runs: one register and `pc`, no flag;
`IT` writes the group state and does not advance it, and is `Undefined` inside a group (47_c16_compact.md sections 4, 7
and 9). -/
def Obligations.MovesC16 : Prop :=
  ∀ s : State, s.slotRuns →
    let put (rd : Fin 16) (v : Word) : Host.Outcome State Fault Refusal := .next (s.setR rd v).finish2
    (∀ f : C16.HI, f.d ≠ 15 →
      exec (.c16AddHi f) s = put f.d (s.rC f.d + s.rC f.rm) ∧ exec (.c16MovHi f) s = put f.d (s.rC f.rm)) ∧
    (∀ f : C16.ADR,
      exec (.c16AdrAdr f) s = put (low f.rd) (BitVec.ofNat 32 ((s.ia32 + 4).toNat / 4 * 4 + 4 * f.imm8.toNat)) ∧
      exec (.c16AddAdr f) s = put (low f.rd) (BitVec.ofNat 32 (s.r[13].toNat + 4 * f.imm8.toNat))) ∧
    (∀ f : C16.SPA,
      exec (.c16AddSpa f) s = put 13 (BitVec.ofNat 32 (s.r[13].toNat + 4 * f.imm7.toNat)) ∧
      exec (.c16SubSpa f) s = put 13 (BitVec.ofInt 32 (s.r[13].toNat - 4 * f.imm7.toNat))) ∧
    exec .c16NopHint s = .next s.finish2 ∧
    (∀ f : C16.IT, exec (.c16ItIt f) s =
      if s.itstate.toNat % 16 = 0 then
        .next (State.next2 { s with itstate := BitVec.ofNat 8 (f.firstcond.toNat * 16 + f.mask.toNat) })
      else .next { s with raised := some ⟨.undef, s.pc, none⟩ })

/-- The single-register transfers of C16: the addresses of the four formats in integer arithmetic, the bytes read zero-
or sign-extended, the bytes stored and no other (47_c16_compact.md section 5). -/
def Obligations.LoadsAndStoresC16 : Prop :=
  ∀ s : State,
    (∀ f : C16.LIT,
      LoadsC16 (.c16LdrLit f) s (BitVec.ofNat 32 ((s.ia32 + 4).toNat / 4 * 4 + 4 * f.imm8.toNat)) 4
        (BitVec.ofNat 32) f.rd) ∧
    (∀ f : C16.LSR,
      let a := s.lo f.rn + s.lo f.rm
      LoadsC16 (.c16LdrLsr f) s a 4 (BitVec.ofNat 32) f.rd ∧ LoadsC16 (.c16LdrhLsr f) s a 2 (BitVec.ofNat 32) f.rd ∧
      LoadsC16 (.c16LdrbLsr f) s a 1 (BitVec.ofNat 32) f.rd ∧
      LoadsC16 (.c16LdrsbLsr f) s a 1 (signedBytes 32 1) f.rd ∧
      LoadsC16 (.c16LdrshLsr f) s a 2 (signedBytes 32 2) f.rd ∧
      StoresC16 (.c16StrLsr f) s a 4 f.rd ∧ StoresC16 (.c16StrhLsr f) s a 2 f.rd ∧ StoresC16 (.c16StrbLsr f) s a 1 f.rd) ∧
    (∀ f : C16.LSI,
      let a (size : Nat) : Word := BitVec.ofNat 32 ((s.lo f.rn).toNat + size * f.imm5.toNat)
      LoadsC16 (.c16LdrLsi f) s (a 4) 4 (BitVec.ofNat 32) f.rd ∧
      LoadsC16 (.c16LdrhLsi f) s (a 2) 2 (BitVec.ofNat 32) f.rd ∧
      LoadsC16 (.c16LdrbLsi f) s (a 1) 1 (BitVec.ofNat 32) f.rd ∧
      StoresC16 (.c16StrLsi f) s (a 4) 4 f.rd ∧ StoresC16 (.c16StrhLsi f) s (a 2) 2 f.rd ∧
      StoresC16 (.c16StrbLsi f) s (a 1) 1 f.rd) ∧
    (∀ f : C16.SPR,
      let a : Word := BitVec.ofNat 32 (s.r[13].toNat + 4 * f.imm8.toNat)
      LoadsC16 (.c16LdrSpr f) s a 4 (BitVec.ofNat 32) f.rd ∧ StoresC16 (.c16StrSpr f) s a 4 f.rd)

/-- The multiple transfers of C16 in a slot that runs: `PUSH` and `STMIA` store the listed registers as they were at
rising addresses and write the base; `POP` and `LDMIA` load them, a loaded base wins, and a word loaded for register 15
goes to `BranchExchange` before the group advances (47_c16_compact.md section 8). -/
def Obligations.MultiplesC16 : Prop :=
  ∀ s : State, s.slotRuns →
    let stores (i : Instr) (l : BitVec 16) (rn : Fin 16) (p u : Bool) : Prop :=
      let start := multiStart (s.rC rn) (listSize l) p u
      l ≠ 0 → Memory.wf s.mem = true →
      (∀ k : Fin 16, l[k] = true → s.canWrite32 s.priv (slotAddr l start k) 4) →
      ∃ m, exec i s = .next (State.setR { s with mem := m } rn (multiBase (s.rC rn) (listSize l) u)).finish2 ∧
        ReadsAs m (storedWords (Memory.get s.mem) s.cfg.endian start ((listed l).map s.rC))
    let loads (i : Instr) (l : BitVec 16) (rn : Fin 16) : Prop :=
      let word (k : Nat) : Word := BitVec.ofNat 32 (s.narrowAt (slotAddr l (s.rC rn) k) 4)
      l ≠ 0 → (l[15] = true → s.mayBranch = true) →
      (∀ k : Fin 16, l[k] = true → s.canRead32 s.priv (slotAddr l (s.rC rn) k) 4) →
      ∃ t : State, exec i s = .next (if l[15] then (t.branchExchange (word 15)).advanceIt else t.finish2) ∧
        t = { s with r := t.r } ∧
        ∀ k : Fin 15, t.r[k] =
          if l[k.val]'(by omega) then word k
          else if rn.val = k.val then multiBase (s.rC rn) (listSize l) true else s.r[k]
    (∀ f : C16.PP,
      stores (.c16PushPp f) (BitVec.ofNat 16 (f.reglist.toNat + if f.r then 2 ^ 14 else 0)) 13 true false ∧
      loads (.c16PopPp f) (BitVec.ofNat 16 (f.reglist.toNat + if f.r then 2 ^ 15 else 0)) 13) ∧
    (∀ f : C16.LSM,
      stores (.c16StmiaLsm f) (BitVec.ofNat 16 f.reglist.toNat) (low f.rn) false true ∧
      loads (.c16LdmiaLsm f) (BitVec.ofNat 16 f.reglist.toNat) (low f.rn))

/-- The C16 branches in a slot that runs, outside a group or in its last slot: targets from `ia + 4` in integer
arithmetic, the link with bit 0 set, the two halves of the long call, and the advance of the group; the prefix of the
call never advances it (47_c16_compact.md sections 4 and 6). -/
def Obligations.BranchesC16 : Prop :=
  ∀ s : State, s.slotRuns →
    let ahead (off : Int) : Word := BitVec.ofInt 32 (s.ia32.toNat + 4 + off)
    let link := s.setR 14 ((s.ia32 + 2) ||| 1)
    let goes (t : State) (a : Word) : Host.Outcome State Fault Refusal :=
      .next (State.advanceIt { t with pc := a.setWidth 64 })
    (s.mayBranch = true →
      (∀ f : C16.BXR, exec (.c16BxBx f) s = .next (s.branchExchange (s.rC f.rm)).advanceIt ∧
        (f.rm ≠ 15 → exec (.c16BlxBx f) s = .next (link.branchExchange (s.rC f.rm)).advanceIt)) ∧
      (∀ f : C16.HI, f.d = 15 →
        exec (.c16AddHi f) s = goes s (BitVec.ofNat 32 ((s.rC 15 + s.rC f.rm).toNat / 2 * 2)) ∧
        exec (.c16MovHi f) s = goes s (BitVec.ofNat 32 ((s.rC f.rm).toNat / 2 * 2))) ∧
      (∀ f : C16.B, exec (.c16BB f) s = goes s (ahead (2 * f.imm11.toInt))) ∧
      (∀ f : C16.BL2, exec (.c16BlBl2 f) s =
        goes link (BitVec.ofNat 32 ((BitVec.ofNat 32 (s.r[14].toNat + 2 * f.imm11.toNat)).toNat / 2 * 2))) ∧
      (∀ f : C16.BL2X, exec (.c16BlxBl2 f) s =
        goes { link with mode := .f32 }
          (BitVec.ofNat 32 ((BitVec.ofNat 32 (s.r[14].toNat + 4 * f.imm10.toNat)).toNat / 4 * 4)))) ∧
    (∀ f : C16.BL1, exec (.c16BlBl1 f) s = .next (s.setR 14 (ahead (4096 * f.imm11.toInt))).next2) ∧
    (s.itstate.toNat % 16 = 0 → ∀ f : C16.BC, exec (.c16BBc f) s =
      if s.flags.condPassed f.cond = true then goes s (ahead (2 * f.imm8.toInt)) else .next s.finish2)

/-! ### W64 -/

/-- `ADD`, `ADDS`, `SUB`, `SUBS` with an immediate or a shifted register, at the width `sf` selects and zero-extended;
register 31 is `sp` as base and as destination without flags, and zero elsewhere (48_w64.md sections 2 and 3). -/
def Obligations.AddSubtractW64 : Prop :=
  ∀ s : State,
    (∀ f : W64.ASI,
      let x := s.getXsp f.rn
      let y : DWord := BitVec.ofNat 64 (f.imm12.toNat * if f.sh then 4096 else 1)
      exec (.w64AddAsi f) s = .next (s.setXsp f.rd (atW f.sf (x + y))).nextW ∧
      exec (.w64SubAsi f) s = .next (s.setXsp f.rd (atW f.sf (x - y))).nextW ∧
      exec (.w64AddsAsi f) s =
        .next (State.setX { s with flags := sumFlagsW f.sf s.flags x y } f.rd (atW f.sf (x + y))).nextW ∧
      exec (.w64SubsAsi f) s =
        .next (State.setX { s with flags := diffFlagsW f.sf s.flags x y } f.rd (atW f.sf (x - y))).nextW) ∧
    (∀ f : W64.ASR, f.wf = true →
      let x := s.getX f.rn
      let y := shiftedW f.sf f.shift (s.getX f.rm) f.imm6.toNat
      exec (.w64AddAsr f) s = .next (s.setX f.rd (atW f.sf (x + y))).nextW ∧
      exec (.w64SubAsr f) s = .next (s.setX f.rd (atW f.sf (x - y))).nextW ∧
      exec (.w64AddsAsr f) s =
        .next (State.setX { s with flags := sumFlagsW f.sf s.flags x y } f.rd (atW f.sf (x + y))).nextW ∧
      exec (.w64SubsAsr f) s =
        .next (State.setX { s with flags := diffFlagsW f.sf s.flags x y } f.rd (atW f.sf (x - y))).nextW)

/-- The eight W64 logical instructions, the wide moves and the two pc-relative addresses: one register and `pc`; only
`ANDS` and `BICS` write flags, with `C` and `V` clear (48_w64.md sections 4 and 5). -/
def Obligations.LogicalAndMovesW64 : Prop :=
  ∀ s : State,
    let put (rd : Fin 32) (v : DWord) : Host.Outcome State Fault Refusal := .next (s.setX rd v).nextW
    (∀ f : W64.LOGR, f.wf = true →
      let x := s.getX f.rn
      let y := shiftedW f.sf f.shift (s.getX f.rm) f.imm6.toNat
      let flags (v : DWord) : Host.Outcome State Fault Refusal :=
        .next (State.setX { s with flags := bitFlagsW f.sf s.flags v } f.rd (atW f.sf v)).nextW
      exec (.w64AndLogr f) s = put f.rd (atW f.sf (x &&& y)) ∧
      exec (.w64BicLogr f) s = put f.rd (atW f.sf (x &&& ~~~y)) ∧
      exec (.w64OrrLogr f) s = put f.rd (atW f.sf (x ||| y)) ∧
      exec (.w64OrnLogr f) s = put f.rd (atW f.sf (x ||| ~~~y)) ∧
      exec (.w64EorLogr f) s = put f.rd (atW f.sf (x ^^^ y)) ∧
      exec (.w64EonLogr f) s = put f.rd (atW f.sf (x ^^^ ~~~y)) ∧
      exec (.w64AndsLogr f) s = flags (x &&& y) ∧
      exec (.w64BicsLogr f) s = flags (x &&& ~~~y)) ∧
    (∀ f : W64.MOVW, f.wf = true →
      let at16 : Nat := f.imm16.toNat * 2 ^ (16 * f.hw.toNat)
      exec (.w64MovzMovw f) s = put f.rd (BitVec.ofNat 64 at16) ∧
      exec (.w64MovnMovw f) s = put f.rd (BitVec.ofNat 64 (2 ^ widthOf f.sf - 1 - at16)) ∧
      exec (.w64MovkMovw f) s = put f.rd (atW f.sf (BitVec.ofNat 64
        ((s.getX f.rd).toNat / 2 ^ (16 * f.hw.toNat + 16) * 2 ^ (16 * f.hw.toNat + 16) + at16
          + (s.getX f.rd).toNat % 2 ^ (16 * f.hw.toNat))))) ∧
    (∀ f : W64.ADR,
      exec (.w64AdrAdr f) s = put f.rd (BitVec.ofInt 64 (s.pc.toNat + f.imm21.toInt)) ∧
      exec (.w64AdrpAdr f) s = put f.rd (BitVec.ofInt 64 (s.pc.toNat / 4096 * 4096 + 4096 * f.imm21.toInt)))

/-- The ten W64 branches: targets from `ia` in integer arithmetic, register targets with bits 1:0 cleared, the link
`ia + 4` after the target is read; nothing but `pc` and `x[30]` changes (48_w64.md section 6). -/
def Obligations.BranchesW64 : Prop :=
  ∀ s : State,
    let jump (t : State) (off : Int) : State := { t with pc := BitVec.ofInt 64 (s.pc.toNat + 4 * off) }
    let goto (t : State) (a : DWord) : State := { t with pc := BitVec.ofNat 64 (a.toNat / 4 * 4) }
    let choose (taken : Prop) [Decidable taken] (off : Int) : Host.Outcome State Fault Refusal :=
      .next (if taken then jump s off else s.nextW)
    let link := s.setX 30 (s.pc + 4)
    (∀ f : W64.BI,
      exec (.w64BBi f) s = .next (jump s f.imm26.toInt) ∧ exec (.w64BlBi f) s = .next (jump link f.imm26.toInt)) ∧
    (∀ f : W64.BC, exec (.w64BcondBc f) s = choose (s.flags.condPassed f.cond = true) f.imm19.toInt) ∧
    (∀ f : W64.CB,
      exec (.w64CbzCb f) s = choose (intW f.sf false (s.getX f.rt) = 0) f.imm19.toInt ∧
      exec (.w64CbnzCb f) s = choose (intW f.sf false (s.getX f.rt) ≠ 0) f.imm19.toInt) ∧
    (∀ f : W64.TB,
      exec (.w64TbzTb f) s = choose ((s.getX f.rt).toNat / 2 ^ f.bit.toNat % 2 = 0) f.imm14.toInt ∧
      exec (.w64TbnzTb f) s = choose ((s.getX f.rt).toNat / 2 ^ f.bit.toNat % 2 = 1) f.imm14.toInt) ∧
    (∀ f : W64.BREG,
      exec (.w64BrBreg f) s = .next (goto s (s.getX f.rn)) ∧
      exec (.w64BlrBreg f) s = .next (goto link (s.getX f.rn)) ∧
      exec (.w64RetBreg f) s = .next (goto s (s.getX f.rn)))

/-- The conditional selects, the divisions and variable shifts and the multiplies of W64: one register, zero-extended
from the width `sf` selects, exact integers reduced to it; a division by zero gives 0 and the quotient rounds toward
zero; no flag is written (48_w64.md sections 7 to 9). -/
def Obligations.RegisterResultsW64 : Prop :=
  ∀ s : State,
    let put (rd : Fin 32) (v : DWord) : Host.Outcome State Fault Refusal := .next (s.setX rd v).nextW
    (∀ f : W64.CSEL,
      let pick (v : Int) : DWord :=
        if s.flags.condPassed f.cond then atW f.sf (s.getX f.rn) else ofIntW f.sf v
      let m := intW f.sf false (s.getX f.rm)
      exec (.w64CselCsel f) s = put f.rd (pick m) ∧ exec (.w64CsincCsel f) s = put f.rd (pick (m + 1)) ∧
      exec (.w64CsinvCsel f) s = put f.rd (pick (-1 - m)) ∧ exec (.w64CsnegCsel f) s = put f.rd (pick (-m))) ∧
    (∀ f : W64.DP2,
      let n := s.getX f.rn
      let m := s.getX f.rm
      let amount := m.toNat % widthOf f.sf
      exec (.w64UdivDp2 f) s = put f.rd (ofIntW f.sf (if intW f.sf false m = 0 then 0
        else intW f.sf false n / intW f.sf false m)) ∧
      exec (.w64SdivDp2 f) s = put f.rd (ofIntW f.sf (if intW f.sf true m = 0 then 0
        else (intW f.sf true n).tdiv (intW f.sf true m))) ∧
      exec (.w64LslvDp2 f) s = put f.rd (shiftedW f.sf .lsl n amount) ∧
      exec (.w64LsrvDp2 f) s = put f.rd (shiftedW f.sf .lsr n amount) ∧
      exec (.w64AsrvDp2 f) s = put f.rd (shiftedW f.sf .asr n amount) ∧
      exec (.w64RorvDp2 f) s = put f.rd (shiftedW f.sf .ror n amount)) ∧
    (∀ f : W64.DP3,
      let v (x : DWord) := intW f.sf false x
      exec (.w64MaddDp3 f) s = put f.rd (ofIntW f.sf (v (s.getX f.ra) + v (s.getX f.rn) * v (s.getX f.rm))) ∧
      exec (.w64MsubDp3 f) s = put f.rd (ofIntW f.sf (v (s.getX f.ra) - v (s.getX f.rn) * v (s.getX f.rm)))) ∧
    (∀ f : W64.DP3L,
      let p (signed : Bool) : Int := intW false signed (s.getX f.rn) * intW false signed (s.getX f.rm)
      exec (.w64SmaddlDp3 f) s = put f.rd (BitVec.ofInt 64 ((s.getX f.ra).toNat + p true)) ∧
      exec (.w64SmsublDp3 f) s = put f.rd (BitVec.ofInt 64 ((s.getX f.ra).toNat - p true)) ∧
      exec (.w64UmaddlDp3 f) s = put f.rd (BitVec.ofInt 64 ((s.getX f.ra).toNat + p false)) ∧
      exec (.w64UmsublDp3 f) s = put f.rd (BitVec.ofInt 64 ((s.getX f.ra).toNat - p false))) ∧
    (∀ f : W64.MULH,
      exec (.w64SmulhDp3 f) s = put f.rd (BitVec.ofInt 64 ((s.getX f.rn).toInt * (s.getX f.rm).toInt / 2 ^ 64)) ∧
      exec (.w64UmulhDp3 f) s = put f.rd (BitVec.ofNat 64 ((s.getX f.rn).toNat * (s.getX f.rm).toNat / 2 ^ 64)))

/-- The W64 address forms in integer arithmetic; the loads and stores of one register, the literal loads and the pairs:
the bytes read, extended as the mnemonic says, after the writeback; the bytes stored and no other; `X31` reads zero and
a load of it is discarded (48_w64.md section 10, 42_addressing_modes.md section 3). -/
def Obligations.LoadsAndStoresW64 : Prop :=
  (∀ (s : State) (k : Nat) (rn rt : Fin 32), k ≤ 3 →
     let base := s.getXsp rn
     (∀ imm12, w64Addr k ⟨rn, rt, .unsigned imm12⟩ s =
       ⟨BitVec.ofNat 64 (base.toNat + imm12.toNat * 2 ^ k), none⟩) ∧
     (∀ imm9 : BitVec 9,
       let sum : DWord := BitVec.ofInt 64 (base.toNat + imm9.toInt)
       w64Addr k ⟨rn, rt, .signed imm9 0⟩ s = ⟨sum, none⟩ ∧
       w64Addr k ⟨rn, rt, .signed imm9 1⟩ s = ⟨base, some sum⟩ ∧
       w64Addr k ⟨rn, rt, .signed imm9 3⟩ s = ⟨sum, some sum⟩) ∧
     (∀ (rm : Fin 32) (sc : Bool),
       let at' (v : Int) : Resolved 64 := ⟨BitVec.ofInt 64 (base.toNat + v * if sc then 2 ^ k else 1), none⟩
       w64Addr k ⟨rn, rt, .reg rm 2 sc⟩ s = at' ((s.getX rm).toNat % 2 ^ 32 : Nat) ∧
       w64Addr k ⟨rn, rt, .reg rm 3 sc⟩ s = at' (s.getX rm).toNat ∧
       w64Addr k ⟨rn, rt, .reg rm 6 sc⟩ s = at' ((s.getX rm).setWidth 32).toInt ∧
       w64Addr k ⟨rn, rt, .reg rm 7 sc⟩ s = at' (s.getX rm).toNat)) ∧
  (∀ (s : State) (f : W64.LSP),
     let form (index wback : Bool) : Prop :=
       pairAddr f s = offsetFrom (s.getXsp f.rn) (f.imm7.toInt * if f.sf then 8 else 4) index wback
     (f.idx = 1 → form false true) ∧ (f.idx = 2 → form true false) ∧ (f.idx = 3 → form true true)) ∧
  (∀ s : State,
     (∀ f : W64.LS, f.wf = true →
       LoadsW64 (.w64Ldrb f) s 0 (BitVec.ofNat 64) f ∧ LoadsW64 (.w64Ldrh f) s 1 (BitVec.ofNat 64) f ∧
       LoadsW64 (.w64Ldrw f) s 2 (BitVec.ofNat 64) f ∧ LoadsW64 (.w64Ldrx f) s 3 (BitVec.ofNat 64) f ∧
       LoadsW64 (.w64Ldrsb f) s 0 (signedBytes 64 1) f ∧ LoadsW64 (.w64Ldrsh f) s 1 (signedBytes 64 2) f ∧
       LoadsW64 (.w64Ldrsw f) s 2 (signedBytes 64 4) f ∧
       LoadsW64 (.w64Ldrsbw f) s 0 (fun v => (signedBytes 32 1 v).setWidth 64) f ∧
       LoadsW64 (.w64Ldrshw f) s 1 (fun v => (signedBytes 32 2 v).setWidth 64) f ∧
       StoresW64 (.w64Strb f) s 0 f ∧ StoresW64 (.w64Strh f) s 1 f ∧ StoresW64 (.w64Strw f) s 2 f ∧
       StoresW64 (.w64Strx f) s 3 f) ∧
     (∀ f : W64.LIT,
       let a : DWord := BitVec.ofInt 64 (s.pc.toNat + 4 * f.imm19.toInt)
       (s.canRead64 a 4 →
         exec (.w64LdrwLit f) s = .next (s.setX f.rt (BitVec.ofNat 64 (s.wideAt a 4))).nextW ∧
         exec (.w64LdrswLit f) s = .next (s.setX f.rt (signedBytes 64 4 (s.wideAt a 4))).nextW) ∧
       (s.canRead64 a 8 → exec (.w64LdrxLit f) s = .next (s.setX f.rt (BitVec.ofNat 64 (s.wideAt a 8))).nextW)) ∧
     (∀ f : W64.LSP, f.wf = true →
       let q := pairAddr f s
       let n := if f.sf then 8 else 4
       let a2 := q.address + BitVec.ofNat 64 n
       (s.canRead64 q.address n → s.canRead64 a2 n →
         exec (.w64LdpLsp f) s = .next ((((s.writeBackX f.rn q.newBase).setX f.rt
           (BitVec.ofNat 64 (s.wideAt q.address n))).setX f.rt2 (BitVec.ofNat 64 (s.wideAt a2 n))).nextW)) ∧
       (Memory.wf s.mem = true → s.canWrite64 q.address n → s.canWrite64 a2 n →
         ∃ m, exec (.w64StpLsp f) s = .next ((State.writeBackX { s with mem := m } f.rn q.newBase).nextW) ∧
           ReadsAs m (storedOver (storedOver (Memory.get s.mem) s.cfg.endian 64 q.address.toNat n (s.getX f.rt).toNat)
             s.cfg.endian 64 a2.toNat n (s.getX f.rt2).toNat))))

/-- `NOP`, `MRS` and `MSR` of W64: the flag view has the four condition flags in bits 31 to 28 and zeros elsewhere, and
writing it changes those four flags alone (48_w64.md R589, R590, R591). -/
def Obligations.SystemW64 : Prop :=
  ∀ s : State,
    exec .w64NopSys s = .next { s with pc := s.pc + 4 } ∧
    (∀ f : W64.SYS,
      let flag (b : Bool) (k : Nat) : DWord := if b then BitVec.ofNat 64 (2 ^ k) else 0
      exec (.w64MrsSys f) s = .next (s.setX f.rt
        (flag s.flags.n 31 ||| flag s.flags.z 30 ||| flag s.flags.c 29 ||| flag s.flags.v 28)).nextW ∧
      let v := s.getX f.rt
      exec (.w64MsrSys f) s = .next { s with
        flags := { s.flags with n := v[31], z := v[30], c := v[29], v := v[28] }
        pc := s.pc + 4 })
end

