-- ==== Sys2Proof/Laws/Memory.lean ====
section
/-! SUPPORT. Memory: a read after a write, the bytes of a multi-byte store and load, and the canonical form that every
memory operation keeps. -/

namespace Sys2Proof.Machine

/-! ### One byte -/

theorem Memory.get_of_wfFrom_of_lt {m : List Host.Cell} {lo a : Nat} (h : Memory.wfFrom lo m = true) (ha : a < lo) :
    Memory.get m a = Memory.unlisted := by
  induction m generalizing lo with
  | nil => rfl
  | cons p m ih =>
    obtain ⟨k, b⟩ := p
    simp only [Memory.wfFrom, Bool.and_eq_true, decide_eq_true_eq] at h
    have hk : k ≠ a := by omega
    simp only [Memory.get, hk, if_false]
    exact ih h.2 (by omega)

theorem Memory.get_set_of_ne (m : List Host.Cell) {a x : Nat} (h : x ≠ a) (v : Byte) :
    Memory.get (Memory.set m a v) x = Memory.get m x := by
  induction m with
  | nil => unfold Memory.set; split <;> simp [Memory.get, Ne.symm h]
  | cons p m ih =>
    obtain ⟨k, b⟩ := p
    unfold Memory.set
    split
    · split <;> simp [Memory.get, Ne.symm h]
    · split
      · rename_i hk
        subst hk
        split <;> simp [Memory.get, Ne.symm h]
      · simp only [Memory.get, ih]

theorem Memory.get_set_self_from {m : List Host.Cell} {lo : Nat} (h : Memory.wfFrom lo m = true) (a : Nat) (v : Byte) :
    Memory.get (Memory.set m a v) a = v := by
  induction m generalizing lo with
  | nil => unfold Memory.set; split <;> simp_all [Memory.get]
  | cons p m ih =>
    obtain ⟨k, b⟩ := p
    simp only [Memory.wfFrom, Bool.and_eq_true, decide_eq_true_eq] at h
    unfold Memory.set
    split
    · rename_i hk
      split
      · rename_i hv
        have : k ≠ a := by omega
        simp only [Memory.get, this, if_false, hv]
        exact Memory.get_of_wfFrom_of_lt h.2 (by omega)
      · simp [Memory.get]
    · split
      · rename_i hk
        split
        · rename_i hv
          rw [hv]
          exact Memory.get_of_wfFrom_of_lt h.2 (by omega)
        · simp [Memory.get]
      · rename_i hk
        have : k ≠ a := fun e => hk e.symm
        simp only [Memory.get, this, if_false]
        exact ih h.2

/-- A read after a write. -/
theorem Memory.get_set {m : List Host.Cell} (h : Memory.wf m = true) (a x : Nat) (v : Byte) :
    Memory.get (Memory.set m a v) x = if x = a then v else Memory.get m x := by
  split
  · subst_vars; exact Memory.get_set_self_from h _ v
  · exact Memory.get_set_of_ne m ‹_› v

theorem Memory.wfFrom_mono {m : List Host.Cell} {lo lo' : Nat} (h : Memory.wfFrom lo m = true) (hl : lo' ≤ lo) :
    Memory.wfFrom lo' m = true := by
  cases m with
  | nil => rfl
  | cons p m =>
    simp only [Memory.wfFrom, Bool.and_eq_true, decide_eq_true_eq] at h ⊢
    exact ⟨⟨⟨by omega, h.1.1.2⟩, h.1.2⟩, h.2⟩

theorem Memory.wfFrom_set {m : List Host.Cell} {lo a : Nat} (h : Memory.wfFrom lo m = true) (hl : lo ≤ a)
    (ha : a < 2 ^ 64) (v : Byte) : Memory.wfFrom lo (Memory.set m a v) = true := by
  induction m generalizing lo with
  | nil => unfold Memory.set; split <;> simp_all [Memory.wfFrom]
  | cons p m ih =>
    obtain ⟨k, b⟩ := p
    have h' := h
    simp only [Memory.wfFrom, Bool.and_eq_true, decide_eq_true_eq] at h
    unfold Memory.set
    split
    · split
      · exact h'
      · simp only [Memory.wfFrom, Bool.and_eq_true, decide_eq_true_eq]
        exact ⟨⟨⟨hl, ha⟩, ‹_›⟩, ⟨⟨by omega, h.1.1.2⟩, h.1.2⟩, h.2⟩
    · split
      · rename_i hk
        split
        · exact Memory.wfFrom_mono h.2 (by omega)
        · simp only [Memory.wfFrom, Bool.and_eq_true, decide_eq_true_eq]
          exact ⟨⟨⟨hl, ha⟩, ‹_›⟩, hk ▸ h.2⟩
      · simp only [Memory.wfFrom, Bool.and_eq_true, decide_eq_true_eq]
        exact ⟨h.1, ih h.2 (by omega)⟩

/-- A write below 2^64 keeps the canonical form. -/
theorem Memory.wf_set {m : List Host.Cell} (h : Memory.wf m = true) {a : Nat} (ha : a < 2 ^ 64) (v : Byte) :
    Memory.wf (Memory.set m a v) = true := Memory.wfFrom_set h (Nat.zero_le _) ha v

/-! ### Several bytes -/

theorem Memory.byteAddr_lt (e : Endian) (bits a n i : Nat) : Memory.byteAddr e bits a n i < 2 ^ bits := by
  cases e <;> exact Nat.mod_lt _ (Nat.two_pow_pos bits)

theorem Memory.wf_storeUpTo {m : List Host.Cell} (h : Memory.wf m = true) (e : Endian) {bits : Nat} (hb : bits ≤ 64)
    (a n v k : Nat) : Memory.wf (Memory.storeUpTo m e bits a n v k) = true := by
  induction k with
  | zero => exact h
  | succ k ih =>
    exact Memory.wf_set ih (lt_of_lt_of_le (Memory.byteAddr_lt ..) (Nat.pow_le_pow_right (by norm_num) hb)) _

/-- A store keeps the canonical form. -/
theorem Memory.wf_store {m : List Host.Cell} (h : Memory.wf m = true) (e : Endian) {bits : Nat} (hb : bits ≤ 64)
    (a n v : Nat) : Memory.wf (Memory.store m e bits a n v) = true := Memory.wf_storeUpTo h e hb a n v n

/-- Which byte of an access an address holds. -/
theorem Memory.byteAddr_eq_iff (e : Endian) {bits a n i x : Nat} (ha : a < 2 ^ bits) (hn : n ≤ 2 ^ bits) (hi : i < n) :
    Memory.byteAddr e bits a n i = x ↔
      x < 2 ^ bits ∧ (x + 2 ^ bits - a) % 2 ^ bits = (match e with
        | .little => i
        | .big => n - 1 - i) := by
  have key : ∀ j, j < n → ((a + j) % 2 ^ bits = x ↔ x < 2 ^ bits ∧ (x + 2 ^ bits - a) % 2 ^ bits = j) := by
    intro j hj
    have hj : j < 2 ^ bits := by omega
    generalize 2 ^ bits = B at *
    constructor
    · intro h
      have hx : x < B := by rw [← h]; exact Nat.mod_lt _ (by omega)
      refine ⟨hx, ?_⟩
      by_cases hc : a + j < B
      · rw [Nat.mod_eq_of_lt hc] at h
        rw [show x + B - a = j + B by omega, Nat.add_mod_right, Nat.mod_eq_of_lt hj]
      · rw [Nat.mod_eq_sub_mod (by omega), Nat.mod_eq_of_lt (by omega)] at h
        rw [show x + B - a = j by omega, Nat.mod_eq_of_lt hj]
    · rintro ⟨hx, h⟩
      by_cases hc : a ≤ x
      · rw [show x + B - a = (x - a) + B by omega, Nat.add_mod_right, Nat.mod_eq_of_lt (by omega)] at h
        rw [show a + j = x by omega, Nat.mod_eq_of_lt hx]
      · rw [Nat.mod_eq_of_lt (by omega)] at h
        rw [show a + j = x + B by omega, Nat.add_mod_right, Nat.mod_eq_of_lt hx]
  cases e with
  | little => exact key i hi
  | big =>
    have := key (n - 1 - i) (by omega)
    rw [← this]
    simp only [Memory.byteAddr]
    rw [show a + n - 1 - i = a + (n - 1 - i) by omega]

theorem Memory.get_storeUpTo {m : List Host.Cell} (h : Memory.wf m = true) (e : Endian) {bits a n : Nat}
    (hb : bits ≤ 64) (ha : a < 2 ^ bits) (hn : n ≤ 2 ^ bits) (v : Nat) {k : Nat} (hk : k ≤ n) (x : Nat) :
    Memory.get (Memory.storeUpTo m e bits a n v k) x =
      let d := (x + 2 ^ bits - a) % 2 ^ bits
      let i := match e with
        | .little => d
        | .big => n - 1 - d
      if x < 2 ^ bits ∧ d < n ∧ i < k then BitVec.ofNat 8 (v / 256 ^ i) else Memory.get m x := by
  induction k with
  | zero => simp [Memory.storeUpTo]
  | succ k ih =>
    rw [Memory.storeUpTo, Memory.get_set (Memory.wf_storeUpTo h e hb a n v k), ih (by omega)]
    have hx := Memory.byteAddr_eq_iff e (x := x) ha hn (show k < n by omega)
    generalize (x + 2 ^ bits - a) % 2 ^ bits = d at hx ⊢
    cases e <;> simp only [eq_comm (a := x)] at hx ⊢ <;> simp only [hx]
    · by_cases h1 : x < 2 ^ bits <;> by_cases h2 : d = k
      · simp [h1, h2, show k < n by omega]
      · simp [h1, h2, show d < k + 1 ↔ d < k by omega]
      · simp [h1]
      · simp [h1]
    · by_cases h1 : x < 2 ^ bits <;> by_cases h2 : d = n - 1 - k
      · have : n - 1 - (n - 1 - k) = k := by omega
        simp [h1, h2, this]; omega
      · have : (d < n ∧ n - 1 - d < k) ↔ (d < n ∧ n - 1 - d < k + 1) := by omega
        simp [h1, h2, this]
      · simp [h1]
      · simp [h1]

/-- The bytes after a store. -/
theorem Memory.get_store {m : List Host.Cell} (h : Memory.wf m = true) (e : Endian) {bits a n : Nat}
    (hb : bits ≤ 64) (ha : a < 2 ^ bits) (hn : n ≤ 2 ^ bits) (v : Nat) :
    ReadsAs (Memory.store m e bits a n v) (storedOver (Memory.get m) e bits a n v) := by
  intro x
  rw [Memory.store, Memory.get_storeUpTo h e hb ha hn v le_rfl]
  simp only [storedOver]
  generalize (x + 2 ^ bits - a) % 2 ^ bits = d
  by_cases h1 : x < 2 ^ bits <;> by_cases h2 : d < n <;> cases e <;> simp [h1, h2]
  omega

theorem Memory.loadUpTo_eq (m : List Host.Cell) (e : Endian) (bits a n k : Nat) :
    Memory.loadUpTo m e bits a n k =
      ((List.range k).map fun i => (Memory.get m (Memory.byteAddr e bits a n i)).toNat * 256 ^ i).sum := by
  induction k with
  | zero => rfl
  | succ k ih => rw [Memory.loadUpTo, ih, List.range_succ]; simp

/-- The value of a load. -/
theorem Memory.load_eq (m : List Host.Cell) (e : Endian) (bits a n : Nat) :
    Memory.load m e bits a n = bytesAt m e bits a n := by
  rw [Memory.load, Memory.loadUpTo_eq]
  cases e with
  | little => rfl
  | big =>
    simp only [bytesAt, Memory.byteAddr]
    rw [← List.sum_reverse, ← List.map_reverse]
    congr 1
    apply List.ext_getElem
    · simp
    · intro i h1 h2
      simp at h1 h2
      simp only [List.getElem_map, List.getElem_reverse, List.getElem_range, List.length_range]
      rw [show a + n - 1 - (n - 1 - i) = a + i by omega]

theorem Memory.loadUpTo_lt (m : List Host.Cell) (e : Endian) (bits a n k : Nat) :
    Memory.loadUpTo m e bits a n k < 256 ^ k := by
  induction k with
  | zero => simp [Memory.loadUpTo]
  | succ k ih =>
    rw [Memory.loadUpTo, pow_succ]
    have := (Memory.get m (Memory.byteAddr e bits a n k)).isLt
    nlinarith [Nat.pos_of_ne_zero (show 256 ^ k ≠ 0 by positivity)]

/-- A load fits in its bytes. -/
theorem bytesAt_lt (m : List Host.Cell) (e : Endian) (bits a n : Nat) : bytesAt m e bits a n < 256 ^ n := by
  rw [← Memory.load_eq]
  exact Memory.loadUpTo_lt ..

/-- Nothing listed is in canonical form. -/
theorem Memory.wf_reset : Memory.wf State.reset.mem = true := rfl

end Sys2Proof.Machine
end

