-- ==== Sys2Proof/Laws/Operands.lean ====
section
/-! SUPPORT. The adder in exact integers: what `AddWithCarry` gives for a sum and for a difference
(40_condition_shifter.md R159), at any width. -/

namespace Sys2Proof.Machine

/-- A value is its own balanced remainder exactly when it lies in the signed range. -/
theorem toInt_ofInt_ne_iff {w : Nat} (hw : 0 < w) (v : Int) :
    (BitVec.ofInt w v).toInt ≠ v ↔ v < -((2 ^ (w - 1) : Nat) : Int) ∨ ((2 ^ (w - 1) : Nat) : Int) - 1 < v := by
  have h2 : (2 ^ w : Nat) = 2 * 2 ^ (w - 1) := by rw [← pow_succ', Nat.sub_add_cancel hw]
  have hp : 0 < 2 ^ (w - 1) := Nat.two_pow_pos _
  rw [BitVec.toInt_ofInt]
  constructor
  · intro h
    by_contra hc
    apply h
    rw [Int.bmod_eq_of_le] <;> omega
  · intro h e
    have h1 := Int.le_bmod (x := v) (m := 2 ^ w) (by omega)
    have h3 := Int.bmod_lt (x := v) (m := 2 ^ w) (by omega)
    rw [e] at h1 h3
    omega

theorem ofInt_toInt_add {w : Nat} (x y : BitVec w) (c : Nat) :
    BitVec.ofInt w (x.toInt + y.toInt + c) = sumBits x y c := by
  unfold sumBits
  apply BitVec.eq_of_toInt_eq
  rw [BitVec.toInt_ofInt, BitVec.toInt_ofInt, BitVec.toInt_eq_toNat_bmod, BitVec.toInt_eq_toNat_bmod]
  rw [show (x.toNat : Int).bmod (2 ^ w) + (y.toNat : Int).bmod (2 ^ w) + (c : Int)
      = (x.toNat : Int).bmod (2 ^ w) + ((y.toNat : Int).bmod (2 ^ w) + c) by ring, Int.bmod_add_bmod,
    show (x.toNat : Int) + ((y.toNat : Int).bmod (2 ^ w) + c) = (y.toNat : Int).bmod (2 ^ w) + (x.toNat + c) by ring,
    Int.bmod_add_bmod]
  ring_nf

theorem addWithCarry_res {w : Nat} (x y : BitVec w) (c : Bool) : (addWithCarry x y c).res = sumBits x y c.toNat := by
  simp only [addWithCarry, sumBits]
  apply BitVec.eq_of_toNat_eq
  simp only [BitVec.toNat_ofNat, BitVec.toNat_ofInt]
  rw [← Nat.cast_add, ← Nat.cast_add, ← Int.natCast_mod, Int.toNat_natCast]

/-- The flags of a sum. -/
theorem arithmetic_sum {w : Nat} (hw : 0 < w) (f : Flags) (x y : BitVec w) (c : Bool) :
    f.arithmetic (addWithCarry x y c).res (addWithCarry x y c).carry (addWithCarry x y c).overflow
      = sumFlags f x y c.toNat := by
  rw [addWithCarry_res]
  simp only [Flags.arithmetic, Flags.setNZ, sumFlags, addWithCarry, Flags.mk.injEq, true_and, and_true]
  refine ⟨by simp [Bool.beq_eq_decide_eq], ?_⟩
  rw [decide_eq_decide, ← ofInt_toInt_add, toInt_ofInt_ne_iff hw]

theorem diffBits_eq {w : Nat} (x y : BitVec w) (c : Bool) :
    sumBits x (~~~y) c.toNat = diffBits x y (1 - c.toNat) := by
  unfold sumBits diffBits
  apply BitVec.eq_of_toInt_eq
  rw [BitVec.toInt_ofInt, BitVec.toInt_ofInt, BitVec.toNat_not]
  have hy := y.isLt
  have : ((x.toNat : Int) + ((2 ^ w - 1 - y.toNat : Nat) : Int) + (c.toNat : Int))
      = ((x.toNat : Int) - y.toNat - ((1 - c.toNat : Nat) : Int)) + ((2 ^ w : Nat) : Int) := by
    have h2 : (((2 : Nat) ^ w - 1 - y.toNat : Nat) : Int) = ((2 ^ w : Nat) : Int) - 1 - y.toNat := by omega
    cases c <;> simp only [Bool.toNat_false, Bool.toNat_true, h2] <;> omega
  rw [this, Int.add_bmod_right]

/-- The result of a difference: the addition of the complement. -/
theorem addWithCarry_not_res {w : Nat} (x y : BitVec w) (c : Bool) :
    (addWithCarry x (~~~y) c).res = diffBits x y (1 - c.toNat) := by
  rw [addWithCarry_res, diffBits_eq]

theorem toInt_not {w : Nat} (hw : 0 < w) (y : BitVec w) : (~~~y).toInt = -1 - y.toInt := by
  have h := BitVec.toInt_eq_msb_cond (~~~y)
  have hy := y.isLt
  have hc : (((2 : Nat) ^ w - 1 - y.toNat : Nat) : Int) = ((2 ^ w : Nat) : Int) - 1 - y.toNat := by omega
  rw [BitVec.msb_not, BitVec.toNat_not, hc] at h
  rw [h, BitVec.toInt_eq_msb_cond y]
  cases hm : y.msb <;> simp [hw] <;> omega

/-- The flags of a difference. -/
theorem arithmetic_diff {w : Nat} (hw : 0 < w) (f : Flags) (x y : BitVec w) (c : Bool) :
    f.arithmetic (addWithCarry x (~~~y) c).res (addWithCarry x (~~~y) c).carry (addWithCarry x (~~~y) c).overflow
      = diffFlags f x y (1 - c.toNat) := by
  rw [arithmetic_sum hw]
  have hy := y.isLt
  have hi : (~~~y).toInt = -1 - y.toInt := toInt_not hw y
  simp only [sumFlags, diffFlags, diffBits_eq, Flags.mk.injEq, true_and, and_true, decide_eq_decide, BitVec.toNat_not, hi]
  refine ⟨by cases c <;> simp <;> omega, ?_⟩
  cases c <;> simp <;> omega

theorem sub_eq_diffBits {w : Nat} (x y : BitVec w) : x - y = diffBits x y 0 := by
  apply BitVec.eq_of_toInt_eq
  rw [diffBits, BitVec.toInt_sub, BitVec.toInt_ofInt, BitVec.toInt_eq_toNat_bmod, BitVec.toInt_eq_toNat_bmod]
  simp

theorem add_eq_sumBits {w : Nat} (x y : BitVec w) : x + y = sumBits x y 0 := by
  apply BitVec.eq_of_toInt_eq
  rw [sumBits, BitVec.toInt_add, BitVec.toInt_ofInt, BitVec.toInt_eq_toNat_bmod, BitVec.toInt_eq_toNat_bmod]
  simp

/-! ### Aligned addresses and scaled offsets -/

theorem and_not_1 (v : Word) : v &&& ~~~1#32 = BitVec.ofNat 32 (v.toNat / 2 * 2) := by
  have h : v &&& ~~~1#32 = (v >>> 1) <<< 1 := by
    ext i hi
    interval_cases i <;> simp
  rw [h]
  apply BitVec.eq_of_toNat_eq
  simp [Nat.shiftLeft_eq, Nat.shiftRight_eq_div_pow]

theorem and_not_3 (v : Word) : v &&& ~~~3#32 = BitVec.ofNat 32 (v.toNat / 4 * 4) := by
  have h : v &&& ~~~3#32 = (v >>> 2) <<< 2 := by
    ext i hi
    interval_cases i <;> simp
  rw [h]
  apply BitVec.eq_of_toNat_eq
  simp [Nat.shiftLeft_eq, Nat.shiftRight_eq_div_pow]

theorem and_not_3_wide (v : DWord) : v &&& ~~~3#64 = BitVec.ofNat 64 (v.toNat / 4 * 4) := by
  have h : v &&& ~~~3#64 = (v >>> 2) <<< 2 := by
    ext i hi
    interval_cases i <;> simp
  rw [h]
  apply BitVec.eq_of_toNat_eq
  simp [Nat.shiftLeft_eq, Nat.shiftRight_eq_div_pow]

theorem and_not_FFF_wide (v : DWord) : v &&& ~~~0xFFF#64 = BitVec.ofNat 64 (v.toNat / 4096 * 4096) := by
  have h : v &&& ~~~0xFFF#64 = (v >>> 12) <<< 12 := by
    ext i hi
    interval_cases i <;> simp
  rw [h]
  apply BitVec.eq_of_toNat_eq
  simp [Nat.shiftLeft_eq, Nat.shiftRight_eq_div_pow]

/-- A signed field, scaled. -/
theorem signExtend_shiftLeft {n : Nat} (w k : Nat) (v : BitVec n) :
    v.signExtend w <<< k = BitVec.ofInt w (v.toInt * 2 ^ k) := by
  rw [BitVec.shiftLeft_eq_mul_twoPow, BitVec.signExtend, BitVec.ofInt_mul]
  congr 1
  apply BitVec.eq_of_toNat_eq
  rw [BitVec.toNat_twoPow, BitVec.toNat_ofInt]
  rw [show ((2 : Int) ^ k) = ((2 ^ k : Nat) : Int) by push_cast; rfl, ← Int.natCast_mod, Int.toNat_natCast]

theorem add_ofInt {w : Nat} (a : BitVec w) (o : Int) : a + BitVec.ofInt w o = BitVec.ofInt w (a.toNat + o) := by
  rw [BitVec.ofInt_add, BitVec.ofInt_natCast, BitVec.ofNat_toNat, BitVec.setWidth_eq]

theorem setWidth_eq_ofNat {n : Nat} (w : Nat) (v : BitVec n) : v.setWidth w = BitVec.ofNat w v.toNat := by
  apply BitVec.eq_of_toNat_eq
  simp

/-- A shift at a width below its own. -/
theorem shiftW_eq (k : ShiftKind) {w : Nat} (v : BitVec w) {n : Nat} (hn : n < w) :
    shiftW k v n = (match k with
      | .lsl => v <<< n
      | .lsr => v >>> n
      | .asr => BitVec.ofInt w (v.toInt / 2 ^ n)
      | .ror => (v >>> n) ||| (v <<< (w - n))) := by
  cases k <;> simp only [shiftW]
  · rw [BitVec.sshiftRight, Int.shiftRight_eq_div_pow]
    norm_cast
  · rw [BitVec.rotateRight, Nat.mod_eq_of_lt hn, BitVec.rotateRightAux]

/-! ### Addresses -/

/-- `ResolveSingle` by an offset added or subtracted. -/
theorem resolveSingle_eq {w : Nat} (base off : BitVec w) (add index wback : Bool) :
    resolveSingle base off add index wback = offsetFrom base (signedBy add off.toNat) index wback := by
  have e : (if add then base + off else base - off) = BitVec.ofInt w (base.toNat + signedBy add off.toNat) := by
    cases add <;> simp [signedBy, BitVec.ofInt_add, BitVec.sub_eq_add_neg, BitVec.ofInt_neg]
  simp only [resolveSingle, offsetFrom, ← e]

/-- `ResolveSingle` by a signed offset added. -/
theorem resolveSingle_signed {w : Nat} (base off : BitVec w) (index wback : Bool) :
    resolveSingle base off true index wback = offsetFrom base off.toInt index wback := by
  have e : base + off = BitVec.ofInt w (base.toNat + off.toInt) := by simp [BitVec.ofInt_add]
  simp only [resolveSingle, offsetFrom, ← e, if_true]

end Sys2Proof.Machine
end

