-- ==== Sys2Proof/Laws/State.lean ====
section
/-! SUPPORT. The fields after each named update of the state: one lemma per field and update, so that no proof unfolds a
record update. -/

namespace Sys2Proof.Machine

/-! ### Registers of the 32-bit modes -/

@[simp] theorem State.setR_x (s : State) (i : Fin 16) (v : Word) : (s.setR i v).x = s.x :=
  by unfold State.setR; split <;> rfl
@[simp] theorem State.setR_sp (s : State) (i : Fin 16) (v : Word) : (s.setR i v).sp = s.sp :=
  by unfold State.setR; split <;> rfl
@[simp] theorem State.setR_pc (s : State) (i : Fin 16) (v : Word) : (s.setR i v).pc = s.pc :=
  by unfold State.setR; split <;> rfl
@[simp] theorem State.setR_flags (s : State) (i : Fin 16) (v : Word) : (s.setR i v).flags = s.flags :=
  by unfold State.setR; split <;> rfl
@[simp] theorem State.setR_mode (s : State) (i : Fin 16) (v : Word) : (s.setR i v).mode = s.mode :=
  by unfold State.setR; split <;> rfl
@[simp] theorem State.setR_priv (s : State) (i : Fin 16) (v : Word) : (s.setR i v).priv = s.priv :=
  by unfold State.setR; split <;> rfl
@[simp] theorem State.setR_itstate (s : State) (i : Fin 16) (v : Word) : (s.setR i v).itstate = s.itstate :=
  by unfold State.setR; split <;> rfl
@[simp] theorem State.setR_vec (s : State) (i : Fin 16) (v : Word) : (s.setR i v).vec = s.vec :=
  by unfold State.setR; split <;> rfl
@[simp] theorem State.setR_vstat (s : State) (i : Fin 16) (v : Word) : (s.setR i v).vstat = s.vstat :=
  by unfold State.setR; split <;> rfl
@[simp] theorem State.setR_lock (s : State) (i : Fin 16) (v : Word) : (s.setR i v).lock = s.lock :=
  by unfold State.setR; split <;> rfl
@[simp] theorem State.setR_sysRegs (s : State) (i : Fin 16) (v : Word) : (s.setR i v).sysRegs = s.sysRegs :=
  by unfold State.setR; split <;> rfl
@[simp] theorem State.setR_mem (s : State) (i : Fin 16) (v : Word) : (s.setR i v).mem = s.mem :=
  by unfold State.setR; split <;> rfl
@[simp] theorem State.setR_ctx (s : State) (i : Fin 16) (v : Word) : (s.setR i v).ctx = s.ctx :=
  by unfold State.setR; split <;> rfl
@[simp] theorem State.setR_lastExit (s : State) (i : Fin 16) (v : Word) : (s.setR i v).lastExit = s.lastExit :=
  by unfold State.setR; split <;> rfl
@[simp] theorem State.setR_raised (s : State) (i : Fin 16) (v : Word) : (s.setR i v).raised = s.raised :=
  by unfold State.setR; split <;> rfl
@[simp] theorem State.setR_cfg (s : State) (i : Fin 16) (v : Word) : (s.setR i v).cfg = s.cfg :=
  by unfold State.setR; split <;> rfl
@[simp] theorem State.setR_env (s : State) (i : Fin 16) (v : Word) : (s.setR i v).env = s.env :=
  by unfold State.setR; split <;> rfl

theorem State.setR_15 (s : State) (v : Word) : s.setR 15 v = s := by simp [State.setR]

theorem State.setR_of_lt (s : State) {i : Fin 16} (h : i.val < 15) (v : Word) :
    s.setR i v = { s with r := s.r.set i.val v } := by simp [State.setR, h]

theorem State.getR_15 (s : State) (p : Word) : s.getR 15 p = p := by simp [State.getR]

theorem State.getR_setR_self (s : State) {i : Fin 16} (h : i ≠ 15) (v p : Word) : (s.setR i v).getR i p = v := by
  have h : i.val < 15 := by omega
  simp [State.getR, State.setR, h]

theorem State.getR_setR_of_ne (s : State) {i j : Fin 16} (h : i ≠ j) (v p : Word) :
    (s.setR i v).getR j p = s.getR j p := by
  have : i.val ≠ j.val := fun e => h (Fin.ext e)
  by_cases hi : i.val < 15 <;> by_cases hj : j.val < 15 <;> simp [State.getR, State.setR, hi, hj, this]

theorem State.getR_congr {s t : State} (h : t.r = s.r) (i : Fin 16) (p : Word) : t.getR i p = s.getR i p := by
  simp only [State.getR, h]

@[simp] theorem State.ia32_setR (s : State) (i : Fin 16) (v : Word) : (s.setR i v).ia32 = s.ia32 :=
  by simp [State.ia32]

theorem State.rF_of_ne (s : State) {i : Fin 16} (h : i ≠ 15) (p : Word) : s.rF i = s.getR i p := by
  have h : i.val < 15 := by omega
  simp [State.rF, State.getR, h]

@[simp] theorem State.rF_15 (s : State) : s.rF 15 = s.ia32 + 8 := s.getR_15 _

@[simp] theorem State.rC_15 (s : State) : s.rC 15 = s.ia32 + 4 := s.getR_15 _

@[simp] theorem State.rC_low (s : State) (i : Fin 8) : s.rC (low i) = s.lo i := by
  have h : i.val < 15 := by omega
  simp [State.rC, State.getR, State.lo, low, h]

/-! ### The program counter and the mode -/

@[simp] theorem State.setPc32_r (s : State) (a : Word) : (s.setPc32 a).r = s.r := rfl
@[simp] theorem State.setPc32_x (s : State) (a : Word) : (s.setPc32 a).x = s.x := rfl
@[simp] theorem State.setPc32_sp (s : State) (a : Word) : (s.setPc32 a).sp = s.sp := rfl
@[simp] theorem State.setPc32_pc (s : State) (a : Word) : (s.setPc32 a).pc = a.setWidth 64 := rfl
@[simp] theorem State.setPc32_flags (s : State) (a : Word) : (s.setPc32 a).flags = s.flags := rfl
@[simp] theorem State.setPc32_mode (s : State) (a : Word) : (s.setPc32 a).mode = s.mode := rfl
@[simp] theorem State.setPc32_priv (s : State) (a : Word) : (s.setPc32 a).priv = s.priv := rfl
@[simp] theorem State.setPc32_itstate (s : State) (a : Word) : (s.setPc32 a).itstate = s.itstate := rfl
@[simp] theorem State.setPc32_vec (s : State) (a : Word) : (s.setPc32 a).vec = s.vec := rfl
@[simp] theorem State.setPc32_vstat (s : State) (a : Word) : (s.setPc32 a).vstat = s.vstat := rfl
@[simp] theorem State.setPc32_lock (s : State) (a : Word) : (s.setPc32 a).lock = s.lock := rfl
@[simp] theorem State.setPc32_sysRegs (s : State) (a : Word) : (s.setPc32 a).sysRegs = s.sysRegs := rfl
@[simp] theorem State.setPc32_mem (s : State) (a : Word) : (s.setPc32 a).mem = s.mem := rfl
@[simp] theorem State.setPc32_ctx (s : State) (a : Word) : (s.setPc32 a).ctx = s.ctx := rfl
@[simp] theorem State.setPc32_lastExit (s : State) (a : Word) : (s.setPc32 a).lastExit = s.lastExit := rfl
@[simp] theorem State.setPc32_raised (s : State) (a : Word) : (s.setPc32 a).raised = s.raised := rfl
@[simp] theorem State.setPc32_cfg (s : State) (a : Word) : (s.setPc32 a).cfg = s.cfg := rfl
@[simp] theorem State.setPc32_env (s : State) (a : Word) : (s.setPc32 a).env = s.env := rfl

@[simp] theorem State.next4_r (s : State) : (s.next4).r = s.r := rfl
@[simp] theorem State.next4_x (s : State) : (s.next4).x = s.x := rfl
@[simp] theorem State.next4_sp (s : State) : (s.next4).sp = s.sp := rfl
@[simp] theorem State.next4_pc (s : State) : (s.next4).pc = (s.ia32 + 4).setWidth 64 := rfl
@[simp] theorem State.next4_flags (s : State) : (s.next4).flags = s.flags := rfl
@[simp] theorem State.next4_mode (s : State) : (s.next4).mode = s.mode := rfl
@[simp] theorem State.next4_priv (s : State) : (s.next4).priv = s.priv := rfl
@[simp] theorem State.next4_itstate (s : State) : (s.next4).itstate = s.itstate := rfl
@[simp] theorem State.next4_vec (s : State) : (s.next4).vec = s.vec := rfl
@[simp] theorem State.next4_vstat (s : State) : (s.next4).vstat = s.vstat := rfl
@[simp] theorem State.next4_lock (s : State) : (s.next4).lock = s.lock := rfl
@[simp] theorem State.next4_sysRegs (s : State) : (s.next4).sysRegs = s.sysRegs := rfl
@[simp] theorem State.next4_mem (s : State) : (s.next4).mem = s.mem := rfl
@[simp] theorem State.next4_ctx (s : State) : (s.next4).ctx = s.ctx := rfl
@[simp] theorem State.next4_lastExit (s : State) : (s.next4).lastExit = s.lastExit := rfl
@[simp] theorem State.next4_raised (s : State) : (s.next4).raised = s.raised := rfl
@[simp] theorem State.next4_cfg (s : State) : (s.next4).cfg = s.cfg := rfl
@[simp] theorem State.next4_env (s : State) : (s.next4).env = s.env := rfl

@[simp] theorem State.next2_r (s : State) : (s.next2).r = s.r := rfl
@[simp] theorem State.next2_x (s : State) : (s.next2).x = s.x := rfl
@[simp] theorem State.next2_sp (s : State) : (s.next2).sp = s.sp := rfl
@[simp] theorem State.next2_pc (s : State) : (s.next2).pc = (s.ia32 + 2).setWidth 64 := rfl
@[simp] theorem State.next2_flags (s : State) : (s.next2).flags = s.flags := rfl
@[simp] theorem State.next2_mode (s : State) : (s.next2).mode = s.mode := rfl
@[simp] theorem State.next2_priv (s : State) : (s.next2).priv = s.priv := rfl
@[simp] theorem State.next2_itstate (s : State) : (s.next2).itstate = s.itstate := rfl
@[simp] theorem State.next2_vec (s : State) : (s.next2).vec = s.vec := rfl
@[simp] theorem State.next2_vstat (s : State) : (s.next2).vstat = s.vstat := rfl
@[simp] theorem State.next2_lock (s : State) : (s.next2).lock = s.lock := rfl
@[simp] theorem State.next2_sysRegs (s : State) : (s.next2).sysRegs = s.sysRegs := rfl
@[simp] theorem State.next2_mem (s : State) : (s.next2).mem = s.mem := rfl
@[simp] theorem State.next2_ctx (s : State) : (s.next2).ctx = s.ctx := rfl
@[simp] theorem State.next2_lastExit (s : State) : (s.next2).lastExit = s.lastExit := rfl
@[simp] theorem State.next2_raised (s : State) : (s.next2).raised = s.raised := rfl
@[simp] theorem State.next2_cfg (s : State) : (s.next2).cfg = s.cfg := rfl
@[simp] theorem State.next2_env (s : State) : (s.next2).env = s.env := rfl

@[simp] theorem State.branchF_r (s : State) (t : Word) : (s.branchF t).r = s.r := rfl
@[simp] theorem State.branchF_x (s : State) (t : Word) : (s.branchF t).x = s.x := rfl
@[simp] theorem State.branchF_sp (s : State) (t : Word) : (s.branchF t).sp = s.sp := rfl
@[simp] theorem State.branchF_pc (s : State) (t : Word) : (s.branchF t).pc = (t &&& ~~~3#32).setWidth 64 := rfl
@[simp] theorem State.branchF_flags (s : State) (t : Word) : (s.branchF t).flags = s.flags := rfl
@[simp] theorem State.branchF_mode (s : State) (t : Word) : (s.branchF t).mode = s.mode := rfl
@[simp] theorem State.branchF_priv (s : State) (t : Word) : (s.branchF t).priv = s.priv := rfl
@[simp] theorem State.branchF_itstate (s : State) (t : Word) : (s.branchF t).itstate = s.itstate := rfl
@[simp] theorem State.branchF_vec (s : State) (t : Word) : (s.branchF t).vec = s.vec := rfl
@[simp] theorem State.branchF_vstat (s : State) (t : Word) : (s.branchF t).vstat = s.vstat := rfl
@[simp] theorem State.branchF_lock (s : State) (t : Word) : (s.branchF t).lock = s.lock := rfl
@[simp] theorem State.branchF_sysRegs (s : State) (t : Word) : (s.branchF t).sysRegs = s.sysRegs := rfl
@[simp] theorem State.branchF_mem (s : State) (t : Word) : (s.branchF t).mem = s.mem := rfl
@[simp] theorem State.branchF_ctx (s : State) (t : Word) : (s.branchF t).ctx = s.ctx := rfl
@[simp] theorem State.branchF_lastExit (s : State) (t : Word) : (s.branchF t).lastExit = s.lastExit := rfl
@[simp] theorem State.branchF_raised (s : State) (t : Word) : (s.branchF t).raised = s.raised := rfl
@[simp] theorem State.branchF_cfg (s : State) (t : Word) : (s.branchF t).cfg = s.cfg := rfl
@[simp] theorem State.branchF_env (s : State) (t : Word) : (s.branchF t).env = s.env := rfl

@[simp] theorem State.nextW_r (s : State) : (s.nextW).r = s.r := rfl
@[simp] theorem State.nextW_x (s : State) : (s.nextW).x = s.x := rfl
@[simp] theorem State.nextW_sp (s : State) : (s.nextW).sp = s.sp := rfl
@[simp] theorem State.nextW_pc (s : State) : (s.nextW).pc = s.pc + 4 := rfl
@[simp] theorem State.nextW_flags (s : State) : (s.nextW).flags = s.flags := rfl
@[simp] theorem State.nextW_mode (s : State) : (s.nextW).mode = s.mode := rfl
@[simp] theorem State.nextW_priv (s : State) : (s.nextW).priv = s.priv := rfl
@[simp] theorem State.nextW_itstate (s : State) : (s.nextW).itstate = s.itstate := rfl
@[simp] theorem State.nextW_vec (s : State) : (s.nextW).vec = s.vec := rfl
@[simp] theorem State.nextW_vstat (s : State) : (s.nextW).vstat = s.vstat := rfl
@[simp] theorem State.nextW_lock (s : State) : (s.nextW).lock = s.lock := rfl
@[simp] theorem State.nextW_sysRegs (s : State) : (s.nextW).sysRegs = s.sysRegs := rfl
@[simp] theorem State.nextW_mem (s : State) : (s.nextW).mem = s.mem := rfl
@[simp] theorem State.nextW_ctx (s : State) : (s.nextW).ctx = s.ctx := rfl
@[simp] theorem State.nextW_lastExit (s : State) : (s.nextW).lastExit = s.lastExit := rfl
@[simp] theorem State.nextW_raised (s : State) : (s.nextW).raised = s.raised := rfl
@[simp] theorem State.nextW_cfg (s : State) : (s.nextW).cfg = s.cfg := rfl
@[simp] theorem State.nextW_env (s : State) : (s.nextW).env = s.env := rfl

@[simp] theorem State.branchW_r (s : State) (t : DWord) : (s.branchW t).r = s.r := rfl
@[simp] theorem State.branchW_x (s : State) (t : DWord) : (s.branchW t).x = s.x := rfl
@[simp] theorem State.branchW_sp (s : State) (t : DWord) : (s.branchW t).sp = s.sp := rfl
@[simp] theorem State.branchW_pc (s : State) (t : DWord) : (s.branchW t).pc = t &&& ~~~3#64 := rfl
@[simp] theorem State.branchW_flags (s : State) (t : DWord) : (s.branchW t).flags = s.flags := rfl
@[simp] theorem State.branchW_mode (s : State) (t : DWord) : (s.branchW t).mode = s.mode := rfl
@[simp] theorem State.branchW_priv (s : State) (t : DWord) : (s.branchW t).priv = s.priv := rfl
@[simp] theorem State.branchW_itstate (s : State) (t : DWord) : (s.branchW t).itstate = s.itstate := rfl
@[simp] theorem State.branchW_vec (s : State) (t : DWord) : (s.branchW t).vec = s.vec := rfl
@[simp] theorem State.branchW_vstat (s : State) (t : DWord) : (s.branchW t).vstat = s.vstat := rfl
@[simp] theorem State.branchW_lock (s : State) (t : DWord) : (s.branchW t).lock = s.lock := rfl
@[simp] theorem State.branchW_sysRegs (s : State) (t : DWord) : (s.branchW t).sysRegs = s.sysRegs := rfl
@[simp] theorem State.branchW_mem (s : State) (t : DWord) : (s.branchW t).mem = s.mem := rfl
@[simp] theorem State.branchW_ctx (s : State) (t : DWord) : (s.branchW t).ctx = s.ctx := rfl
@[simp] theorem State.branchW_lastExit (s : State) (t : DWord) : (s.branchW t).lastExit = s.lastExit := rfl
@[simp] theorem State.branchW_raised (s : State) (t : DWord) : (s.branchW t).raised = s.raised := rfl
@[simp] theorem State.branchW_cfg (s : State) (t : DWord) : (s.branchW t).cfg = s.cfg := rfl
@[simp] theorem State.branchW_env (s : State) (t : DWord) : (s.branchW t).env = s.env := rfl

@[simp] theorem State.branchExchange_r (s : State) (t : Word) : (s.branchExchange t).r = s.r :=
  by unfold State.branchExchange; split <;> rfl
@[simp] theorem State.branchExchange_x (s : State) (t : Word) : (s.branchExchange t).x = s.x :=
  by unfold State.branchExchange; split <;> rfl
@[simp] theorem State.branchExchange_sp (s : State) (t : Word) : (s.branchExchange t).sp = s.sp :=
  by unfold State.branchExchange; split <;> rfl
@[simp] theorem State.branchExchange_pc (s : State) (t : Word) :
    (s.branchExchange t).pc = if t[0] then (t &&& ~~~1#32).setWidth 64 else (t &&& ~~~3#32).setWidth 64 :=
  by unfold State.branchExchange; split <;> rfl
@[simp] theorem State.branchExchange_flags (s : State) (t : Word) : (s.branchExchange t).flags = s.flags :=
  by unfold State.branchExchange; split <;> rfl
@[simp] theorem State.branchExchange_mode (s : State) (t : Word) :
    (s.branchExchange t).mode = if t[0] then .c16 else .f32 :=
  by unfold State.branchExchange; split <;> rfl
@[simp] theorem State.branchExchange_priv (s : State) (t : Word) : (s.branchExchange t).priv = s.priv :=
  by unfold State.branchExchange; split <;> rfl
@[simp] theorem State.branchExchange_itstate (s : State) (t : Word) : (s.branchExchange t).itstate = s.itstate :=
  by unfold State.branchExchange; split <;> rfl
@[simp] theorem State.branchExchange_vec (s : State) (t : Word) : (s.branchExchange t).vec = s.vec :=
  by unfold State.branchExchange; split <;> rfl
@[simp] theorem State.branchExchange_vstat (s : State) (t : Word) : (s.branchExchange t).vstat = s.vstat :=
  by unfold State.branchExchange; split <;> rfl
@[simp] theorem State.branchExchange_lock (s : State) (t : Word) : (s.branchExchange t).lock = s.lock :=
  by unfold State.branchExchange; split <;> rfl
@[simp] theorem State.branchExchange_sysRegs (s : State) (t : Word) : (s.branchExchange t).sysRegs = s.sysRegs :=
  by unfold State.branchExchange; split <;> rfl
@[simp] theorem State.branchExchange_mem (s : State) (t : Word) : (s.branchExchange t).mem = s.mem :=
  by unfold State.branchExchange; split <;> rfl
@[simp] theorem State.branchExchange_ctx (s : State) (t : Word) : (s.branchExchange t).ctx = s.ctx :=
  by unfold State.branchExchange; split <;> rfl
@[simp] theorem State.branchExchange_lastExit (s : State) (t : Word) :
    (s.branchExchange t).lastExit = s.lastExit :=
  by unfold State.branchExchange; split <;> rfl
@[simp] theorem State.branchExchange_raised (s : State) (t : Word) : (s.branchExchange t).raised = s.raised :=
  by unfold State.branchExchange; split <;> rfl
@[simp] theorem State.branchExchange_cfg (s : State) (t : Word) : (s.branchExchange t).cfg = s.cfg :=
  by unfold State.branchExchange; split <;> rfl
@[simp] theorem State.branchExchange_env (s : State) (t : Word) : (s.branchExchange t).env = s.env :=
  by unfold State.branchExchange; split <;> rfl

theorem State.ia32_of_narrow (s : State) (h : s.pc.toNat < 2 ^ 32) : s.ia32.setWidth 64 = s.pc := by
  apply BitVec.eq_of_toNat_eq
  simp only [State.ia32, BitVec.toNat_setWidth]
  omega

@[simp] theorem State.ia32_setPc32 (s : State) (a : Word) : (s.setPc32 a).ia32 = a := by
  apply BitVec.eq_of_toNat_eq
  simp only [State.ia32, State.setPc32_pc, BitVec.toNat_setWidth]
  omega

/-! ### The conditional-execution group -/

@[simp] theorem State.advanceIt_r (s : State) : (s.advanceIt).r = s.r := rfl
@[simp] theorem State.advanceIt_x (s : State) : (s.advanceIt).x = s.x := rfl
@[simp] theorem State.advanceIt_sp (s : State) : (s.advanceIt).sp = s.sp := rfl
@[simp] theorem State.advanceIt_pc (s : State) : (s.advanceIt).pc = s.pc := rfl
@[simp] theorem State.advanceIt_flags (s : State) : (s.advanceIt).flags = s.flags := rfl
@[simp] theorem State.advanceIt_mode (s : State) : (s.advanceIt).mode = s.mode := rfl
@[simp] theorem State.advanceIt_priv (s : State) : (s.advanceIt).priv = s.priv := rfl
@[simp] theorem State.advanceIt_itstate (s : State) : (s.advanceIt).itstate = Machine.advanceIt s.itstate := rfl
@[simp] theorem State.advanceIt_vec (s : State) : (s.advanceIt).vec = s.vec := rfl
@[simp] theorem State.advanceIt_vstat (s : State) : (s.advanceIt).vstat = s.vstat := rfl
@[simp] theorem State.advanceIt_lock (s : State) : (s.advanceIt).lock = s.lock := rfl
@[simp] theorem State.advanceIt_sysRegs (s : State) : (s.advanceIt).sysRegs = s.sysRegs := rfl
@[simp] theorem State.advanceIt_mem (s : State) : (s.advanceIt).mem = s.mem := rfl
@[simp] theorem State.advanceIt_ctx (s : State) : (s.advanceIt).ctx = s.ctx := rfl
@[simp] theorem State.advanceIt_lastExit (s : State) : (s.advanceIt).lastExit = s.lastExit := rfl
@[simp] theorem State.advanceIt_raised (s : State) : (s.advanceIt).raised = s.raised := rfl
@[simp] theorem State.advanceIt_cfg (s : State) : (s.advanceIt).cfg = s.cfg := rfl
@[simp] theorem State.advanceIt_env (s : State) : (s.advanceIt).env = s.env := rfl

@[simp] theorem State.finish2_r (s : State) : (s.finish2).r = s.r := rfl
@[simp] theorem State.finish2_x (s : State) : (s.finish2).x = s.x := rfl
@[simp] theorem State.finish2_sp (s : State) : (s.finish2).sp = s.sp := rfl
@[simp] theorem State.finish2_pc (s : State) : (s.finish2).pc = (s.ia32 + 2).setWidth 64 := rfl
@[simp] theorem State.finish2_flags (s : State) : (s.finish2).flags = s.flags := rfl
@[simp] theorem State.finish2_mode (s : State) : (s.finish2).mode = s.mode := rfl
@[simp] theorem State.finish2_priv (s : State) : (s.finish2).priv = s.priv := rfl
@[simp] theorem State.finish2_itstate (s : State) : (s.finish2).itstate = Machine.advanceIt s.itstate := rfl
@[simp] theorem State.finish2_vec (s : State) : (s.finish2).vec = s.vec := rfl
@[simp] theorem State.finish2_vstat (s : State) : (s.finish2).vstat = s.vstat := rfl
@[simp] theorem State.finish2_lock (s : State) : (s.finish2).lock = s.lock := rfl
@[simp] theorem State.finish2_sysRegs (s : State) : (s.finish2).sysRegs = s.sysRegs := rfl
@[simp] theorem State.finish2_mem (s : State) : (s.finish2).mem = s.mem := rfl
@[simp] theorem State.finish2_ctx (s : State) : (s.finish2).ctx = s.ctx := rfl
@[simp] theorem State.finish2_lastExit (s : State) : (s.finish2).lastExit = s.lastExit := rfl
@[simp] theorem State.finish2_raised (s : State) : (s.finish2).raised = s.raised := rfl
@[simp] theorem State.finish2_cfg (s : State) : (s.finish2).cfg = s.cfg := rfl
@[simp] theorem State.finish2_env (s : State) : (s.finish2).env = s.env := rfl

@[simp] theorem State.branchC_r (s : State) (t : Word) : (s.branchC t).r = s.r := rfl
@[simp] theorem State.branchC_x (s : State) (t : Word) : (s.branchC t).x = s.x := rfl
@[simp] theorem State.branchC_sp (s : State) (t : Word) : (s.branchC t).sp = s.sp := rfl
@[simp] theorem State.branchC_pc (s : State) (t : Word) : (s.branchC t).pc = (t &&& ~~~1#32).setWidth 64 := rfl
@[simp] theorem State.branchC_flags (s : State) (t : Word) : (s.branchC t).flags = s.flags := rfl
@[simp] theorem State.branchC_mode (s : State) (t : Word) : (s.branchC t).mode = s.mode := rfl
@[simp] theorem State.branchC_priv (s : State) (t : Word) : (s.branchC t).priv = s.priv := rfl
@[simp] theorem State.branchC_itstate (s : State) (t : Word) :
    (s.branchC t).itstate = Machine.advanceIt s.itstate :=
  rfl
@[simp] theorem State.branchC_vec (s : State) (t : Word) : (s.branchC t).vec = s.vec := rfl
@[simp] theorem State.branchC_vstat (s : State) (t : Word) : (s.branchC t).vstat = s.vstat := rfl
@[simp] theorem State.branchC_lock (s : State) (t : Word) : (s.branchC t).lock = s.lock := rfl
@[simp] theorem State.branchC_sysRegs (s : State) (t : Word) : (s.branchC t).sysRegs = s.sysRegs := rfl
@[simp] theorem State.branchC_mem (s : State) (t : Word) : (s.branchC t).mem = s.mem := rfl
@[simp] theorem State.branchC_ctx (s : State) (t : Word) : (s.branchC t).ctx = s.ctx := rfl
@[simp] theorem State.branchC_lastExit (s : State) (t : Word) : (s.branchC t).lastExit = s.lastExit := rfl
@[simp] theorem State.branchC_raised (s : State) (t : Word) : (s.branchC t).raised = s.raised := rfl
@[simp] theorem State.branchC_cfg (s : State) (t : Word) : (s.branchC t).cfg = s.cfg := rfl
@[simp] theorem State.branchC_env (s : State) (t : Word) : (s.branchC t).env = s.env := rfl

@[simp] theorem State.withFlagsS_r (s : State) (f : Flags) : (s.withFlagsS f).r = s.r := by
  unfold State.withFlagsS; split <;> rfl
@[simp] theorem State.withFlagsS_x (s : State) (f : Flags) : (s.withFlagsS f).x = s.x := by
  unfold State.withFlagsS; split <;> rfl
@[simp] theorem State.withFlagsS_sp (s : State) (f : Flags) : (s.withFlagsS f).sp = s.sp := by
  unfold State.withFlagsS; split <;> rfl
@[simp] theorem State.withFlagsS_pc (s : State) (f : Flags) : (s.withFlagsS f).pc = s.pc := by
  unfold State.withFlagsS; split <;> rfl
@[simp] theorem State.withFlagsS_flags (s : State) (f : Flags) : (s.withFlagsS f).flags = s.flagsS f := by
  unfold State.withFlagsS State.flagsS State.inGroup; split <;> simp_all
@[simp] theorem State.withFlagsS_mode (s : State) (f : Flags) : (s.withFlagsS f).mode = s.mode := by
  unfold State.withFlagsS; split <;> rfl
@[simp] theorem State.withFlagsS_priv (s : State) (f : Flags) : (s.withFlagsS f).priv = s.priv := by
  unfold State.withFlagsS; split <;> rfl
@[simp] theorem State.withFlagsS_itstate (s : State) (f : Flags) : (s.withFlagsS f).itstate = s.itstate := by
  unfold State.withFlagsS; split <;> rfl
@[simp] theorem State.withFlagsS_vec (s : State) (f : Flags) : (s.withFlagsS f).vec = s.vec := by
  unfold State.withFlagsS; split <;> rfl
@[simp] theorem State.withFlagsS_vstat (s : State) (f : Flags) : (s.withFlagsS f).vstat = s.vstat := by
  unfold State.withFlagsS; split <;> rfl
@[simp] theorem State.withFlagsS_lock (s : State) (f : Flags) : (s.withFlagsS f).lock = s.lock := by
  unfold State.withFlagsS; split <;> rfl
@[simp] theorem State.withFlagsS_sysRegs (s : State) (f : Flags) : (s.withFlagsS f).sysRegs = s.sysRegs := by
  unfold State.withFlagsS; split <;> rfl
@[simp] theorem State.withFlagsS_mem (s : State) (f : Flags) : (s.withFlagsS f).mem = s.mem := by
  unfold State.withFlagsS; split <;> rfl
@[simp] theorem State.withFlagsS_ctx (s : State) (f : Flags) : (s.withFlagsS f).ctx = s.ctx := by
  unfold State.withFlagsS; split <;> rfl
@[simp] theorem State.withFlagsS_lastExit (s : State) (f : Flags) : (s.withFlagsS f).lastExit = s.lastExit := by
  unfold State.withFlagsS; split <;> rfl
@[simp] theorem State.withFlagsS_raised (s : State) (f : Flags) : (s.withFlagsS f).raised = s.raised := by
  unfold State.withFlagsS; split <;> rfl
@[simp] theorem State.withFlagsS_cfg (s : State) (f : Flags) : (s.withFlagsS f).cfg = s.cfg := by
  unfold State.withFlagsS; split <;> rfl
@[simp] theorem State.withFlagsS_env (s : State) (f : Flags) : (s.withFlagsS f).env = s.env := by
  unfold State.withFlagsS; split <;> rfl

/-! ### Registers of W64 -/

@[simp] theorem State.setX_r (s : State) (i : Fin 32) (v : DWord) : (s.setX i v).r = s.r :=
  by unfold State.setX; split <;> rfl
@[simp] theorem State.setX_sp (s : State) (i : Fin 32) (v : DWord) : (s.setX i v).sp = s.sp :=
  by unfold State.setX; split <;> rfl
@[simp] theorem State.setX_pc (s : State) (i : Fin 32) (v : DWord) : (s.setX i v).pc = s.pc :=
  by unfold State.setX; split <;> rfl
@[simp] theorem State.setX_flags (s : State) (i : Fin 32) (v : DWord) : (s.setX i v).flags = s.flags :=
  by unfold State.setX; split <;> rfl
@[simp] theorem State.setX_mode (s : State) (i : Fin 32) (v : DWord) : (s.setX i v).mode = s.mode :=
  by unfold State.setX; split <;> rfl
@[simp] theorem State.setX_priv (s : State) (i : Fin 32) (v : DWord) : (s.setX i v).priv = s.priv :=
  by unfold State.setX; split <;> rfl
@[simp] theorem State.setX_itstate (s : State) (i : Fin 32) (v : DWord) : (s.setX i v).itstate = s.itstate :=
  by unfold State.setX; split <;> rfl
@[simp] theorem State.setX_vec (s : State) (i : Fin 32) (v : DWord) : (s.setX i v).vec = s.vec :=
  by unfold State.setX; split <;> rfl
@[simp] theorem State.setX_vstat (s : State) (i : Fin 32) (v : DWord) : (s.setX i v).vstat = s.vstat :=
  by unfold State.setX; split <;> rfl
@[simp] theorem State.setX_lock (s : State) (i : Fin 32) (v : DWord) : (s.setX i v).lock = s.lock :=
  by unfold State.setX; split <;> rfl
@[simp] theorem State.setX_sysRegs (s : State) (i : Fin 32) (v : DWord) : (s.setX i v).sysRegs = s.sysRegs :=
  by unfold State.setX; split <;> rfl
@[simp] theorem State.setX_mem (s : State) (i : Fin 32) (v : DWord) : (s.setX i v).mem = s.mem :=
  by unfold State.setX; split <;> rfl
@[simp] theorem State.setX_ctx (s : State) (i : Fin 32) (v : DWord) : (s.setX i v).ctx = s.ctx :=
  by unfold State.setX; split <;> rfl
@[simp] theorem State.setX_lastExit (s : State) (i : Fin 32) (v : DWord) : (s.setX i v).lastExit = s.lastExit :=
  by unfold State.setX; split <;> rfl
@[simp] theorem State.setX_raised (s : State) (i : Fin 32) (v : DWord) : (s.setX i v).raised = s.raised :=
  by unfold State.setX; split <;> rfl
@[simp] theorem State.setX_cfg (s : State) (i : Fin 32) (v : DWord) : (s.setX i v).cfg = s.cfg :=
  by unfold State.setX; split <;> rfl
@[simp] theorem State.setX_env (s : State) (i : Fin 32) (v : DWord) : (s.setX i v).env = s.env :=
  by unfold State.setX; split <;> rfl

@[simp] theorem State.setXsp_r (s : State) (i : Fin 32) (v : DWord) : (s.setXsp i v).r = s.r :=
  by unfold State.setXsp; split <;> rfl
@[simp] theorem State.setXsp_pc (s : State) (i : Fin 32) (v : DWord) : (s.setXsp i v).pc = s.pc :=
  by unfold State.setXsp; split <;> rfl
@[simp] theorem State.setXsp_flags (s : State) (i : Fin 32) (v : DWord) : (s.setXsp i v).flags = s.flags :=
  by unfold State.setXsp; split <;> rfl
@[simp] theorem State.setXsp_mode (s : State) (i : Fin 32) (v : DWord) : (s.setXsp i v).mode = s.mode :=
  by unfold State.setXsp; split <;> rfl
@[simp] theorem State.setXsp_priv (s : State) (i : Fin 32) (v : DWord) : (s.setXsp i v).priv = s.priv :=
  by unfold State.setXsp; split <;> rfl
@[simp] theorem State.setXsp_itstate (s : State) (i : Fin 32) (v : DWord) : (s.setXsp i v).itstate = s.itstate :=
  by unfold State.setXsp; split <;> rfl
@[simp] theorem State.setXsp_vec (s : State) (i : Fin 32) (v : DWord) : (s.setXsp i v).vec = s.vec :=
  by unfold State.setXsp; split <;> rfl
@[simp] theorem State.setXsp_vstat (s : State) (i : Fin 32) (v : DWord) : (s.setXsp i v).vstat = s.vstat :=
  by unfold State.setXsp; split <;> rfl
@[simp] theorem State.setXsp_lock (s : State) (i : Fin 32) (v : DWord) : (s.setXsp i v).lock = s.lock :=
  by unfold State.setXsp; split <;> rfl
@[simp] theorem State.setXsp_sysRegs (s : State) (i : Fin 32) (v : DWord) : (s.setXsp i v).sysRegs = s.sysRegs :=
  by unfold State.setXsp; split <;> rfl
@[simp] theorem State.setXsp_mem (s : State) (i : Fin 32) (v : DWord) : (s.setXsp i v).mem = s.mem :=
  by unfold State.setXsp; split <;> rfl
@[simp] theorem State.setXsp_ctx (s : State) (i : Fin 32) (v : DWord) : (s.setXsp i v).ctx = s.ctx :=
  by unfold State.setXsp; split <;> rfl
@[simp] theorem State.setXsp_lastExit (s : State) (i : Fin 32) (v : DWord) :
    (s.setXsp i v).lastExit = s.lastExit :=
  by unfold State.setXsp; split <;> rfl
@[simp] theorem State.setXsp_raised (s : State) (i : Fin 32) (v : DWord) : (s.setXsp i v).raised = s.raised :=
  by unfold State.setXsp; split <;> rfl
@[simp] theorem State.setXsp_cfg (s : State) (i : Fin 32) (v : DWord) : (s.setXsp i v).cfg = s.cfg :=
  by unfold State.setXsp; split <;> rfl
@[simp] theorem State.setXsp_env (s : State) (i : Fin 32) (v : DWord) : (s.setXsp i v).env = s.env :=
  by unfold State.setXsp; split <;> rfl

@[simp] theorem State.getX_31 (s : State) : s.getX 31 = 0 := by simp [State.getX]

@[simp] theorem State.getXsp_31 (s : State) : s.getXsp 31 = s.sp := by simp [State.getXsp]

theorem State.setX_31 (s : State) (v : DWord) : s.setX 31 v = s := by simp [State.setX]

theorem State.setXsp_31 (s : State) (v : DWord) : s.setXsp 31 v = { s with sp := v } := by simp [State.setXsp]

theorem State.getX_setX_self (s : State) {i : Fin 32} (h : i ≠ 31) (v : DWord) : (s.setX i v).getX i = v := by
  have h : i.val < 31 := by omega
  simp [State.getX, State.setX, h]

theorem State.getX_setX_of_ne (s : State) {i j : Fin 32} (h : i ≠ j) (v : DWord) : (s.setX i v).getX j = s.getX j := by
  have : i.val ≠ j.val := fun e => h (Fin.ext e)
  by_cases hi : i.val < 31 <;> by_cases hj : j.val < 31 <;> simp [State.getX, State.setX, hi, hj, this]

theorem State.getX_congr {s t : State} (h : t.x = s.x) (i : Fin 32) : t.getX i = s.getX i := by
  simp only [State.getX, h]

/-! ### Vector registers and vector status -/

@[simp] theorem State.setV_r (s : State) (i : Fin 16) (v : DWord) : (s.setV i v).r = s.r := rfl
@[simp] theorem State.setV_x (s : State) (i : Fin 16) (v : DWord) : (s.setV i v).x = s.x := rfl
@[simp] theorem State.setV_sp (s : State) (i : Fin 16) (v : DWord) : (s.setV i v).sp = s.sp := rfl
@[simp] theorem State.setV_pc (s : State) (i : Fin 16) (v : DWord) : (s.setV i v).pc = s.pc := rfl
@[simp] theorem State.setV_flags (s : State) (i : Fin 16) (v : DWord) : (s.setV i v).flags = s.flags := rfl
@[simp] theorem State.setV_mode (s : State) (i : Fin 16) (v : DWord) : (s.setV i v).mode = s.mode := rfl
@[simp] theorem State.setV_priv (s : State) (i : Fin 16) (v : DWord) : (s.setV i v).priv = s.priv := rfl
@[simp] theorem State.setV_itstate (s : State) (i : Fin 16) (v : DWord) : (s.setV i v).itstate = s.itstate := rfl
@[simp] theorem State.setV_vec (s : State) (i : Fin 16) (v : DWord) : (s.setV i v).vec = s.vec.set i.val v := rfl
@[simp] theorem State.setV_vstat (s : State) (i : Fin 16) (v : DWord) : (s.setV i v).vstat = s.vstat := rfl
@[simp] theorem State.setV_lock (s : State) (i : Fin 16) (v : DWord) : (s.setV i v).lock = s.lock := rfl
@[simp] theorem State.setV_sysRegs (s : State) (i : Fin 16) (v : DWord) : (s.setV i v).sysRegs = s.sysRegs := rfl
@[simp] theorem State.setV_mem (s : State) (i : Fin 16) (v : DWord) : (s.setV i v).mem = s.mem := rfl
@[simp] theorem State.setV_ctx (s : State) (i : Fin 16) (v : DWord) : (s.setV i v).ctx = s.ctx := rfl
@[simp] theorem State.setV_lastExit (s : State) (i : Fin 16) (v : DWord) : (s.setV i v).lastExit = s.lastExit := rfl
@[simp] theorem State.setV_raised (s : State) (i : Fin 16) (v : DWord) : (s.setV i v).raised = s.raised := rfl
@[simp] theorem State.setV_cfg (s : State) (i : Fin 16) (v : DWord) : (s.setV i v).cfg = s.cfg := rfl
@[simp] theorem State.setV_env (s : State) (i : Fin 16) (v : DWord) : (s.setV i v).env = s.env := rfl

@[simp] theorem State.recordSat_r (s : State) (m : BitVec 8) : (s.recordSat m).r = s.r := rfl
@[simp] theorem State.recordSat_x (s : State) (m : BitVec 8) : (s.recordSat m).x = s.x := rfl
@[simp] theorem State.recordSat_sp (s : State) (m : BitVec 8) : (s.recordSat m).sp = s.sp := rfl
@[simp] theorem State.recordSat_pc (s : State) (m : BitVec 8) : (s.recordSat m).pc = s.pc := rfl
@[simp] theorem State.recordSat_flags (s : State) (m : BitVec 8) :
    (s.recordSat m).flags = s.flags.stickyQ (m != 0) :=
  rfl
@[simp] theorem State.recordSat_mode (s : State) (m : BitVec 8) : (s.recordSat m).mode = s.mode := rfl
@[simp] theorem State.recordSat_priv (s : State) (m : BitVec 8) : (s.recordSat m).priv = s.priv := rfl
@[simp] theorem State.recordSat_itstate (s : State) (m : BitVec 8) : (s.recordSat m).itstate = s.itstate := rfl
@[simp] theorem State.recordSat_vec (s : State) (m : BitVec 8) : (s.recordSat m).vec = s.vec := rfl
@[simp] theorem State.recordSat_vstat (s : State) (m : BitVec 8) :
    (s.recordSat m).vstat = { s.vstat with sat := s.vstat.sat ||| m } :=
  rfl
@[simp] theorem State.recordSat_lock (s : State) (m : BitVec 8) : (s.recordSat m).lock = s.lock := rfl
@[simp] theorem State.recordSat_sysRegs (s : State) (m : BitVec 8) : (s.recordSat m).sysRegs = s.sysRegs := rfl
@[simp] theorem State.recordSat_mem (s : State) (m : BitVec 8) : (s.recordSat m).mem = s.mem := rfl
@[simp] theorem State.recordSat_ctx (s : State) (m : BitVec 8) : (s.recordSat m).ctx = s.ctx := rfl
@[simp] theorem State.recordSat_lastExit (s : State) (m : BitVec 8) : (s.recordSat m).lastExit = s.lastExit := rfl
@[simp] theorem State.recordSat_raised (s : State) (m : BitVec 8) : (s.recordSat m).raised = s.raised := rfl
@[simp] theorem State.recordSat_cfg (s : State) (m : BitVec 8) : (s.recordSat m).cfg = s.cfg := rfl
@[simp] theorem State.recordSat_env (s : State) (m : BitVec 8) : (s.recordSat m).env = s.env := rfl

@[simp] theorem State.recordPred_r (s : State) (m : BitVec 8) : (s.recordPred m).r = s.r := rfl
@[simp] theorem State.recordPred_x (s : State) (m : BitVec 8) : (s.recordPred m).x = s.x := rfl
@[simp] theorem State.recordPred_sp (s : State) (m : BitVec 8) : (s.recordPred m).sp = s.sp := rfl
@[simp] theorem State.recordPred_pc (s : State) (m : BitVec 8) : (s.recordPred m).pc = s.pc := rfl
@[simp] theorem State.recordPred_flags (s : State) (m : BitVec 8) : (s.recordPred m).flags = s.flags := rfl
@[simp] theorem State.recordPred_mode (s : State) (m : BitVec 8) : (s.recordPred m).mode = s.mode := rfl
@[simp] theorem State.recordPred_priv (s : State) (m : BitVec 8) : (s.recordPred m).priv = s.priv := rfl
@[simp] theorem State.recordPred_itstate (s : State) (m : BitVec 8) : (s.recordPred m).itstate = s.itstate := rfl
@[simp] theorem State.recordPred_vec (s : State) (m : BitVec 8) : (s.recordPred m).vec = s.vec := rfl
@[simp] theorem State.recordPred_vstat (s : State) (m : BitVec 8) :
    (s.recordPred m).vstat = { s.vstat with pred := m } :=
  rfl
@[simp] theorem State.recordPred_lock (s : State) (m : BitVec 8) : (s.recordPred m).lock = s.lock := rfl
@[simp] theorem State.recordPred_sysRegs (s : State) (m : BitVec 8) : (s.recordPred m).sysRegs = s.sysRegs := rfl
@[simp] theorem State.recordPred_mem (s : State) (m : BitVec 8) : (s.recordPred m).mem = s.mem := rfl
@[simp] theorem State.recordPred_ctx (s : State) (m : BitVec 8) : (s.recordPred m).ctx = s.ctx := rfl
@[simp] theorem State.recordPred_lastExit (s : State) (m : BitVec 8) : (s.recordPred m).lastExit = s.lastExit := rfl
@[simp] theorem State.recordPred_raised (s : State) (m : BitVec 8) : (s.recordPred m).raised = s.raised := rfl
@[simp] theorem State.recordPred_cfg (s : State) (m : BitVec 8) : (s.recordPred m).cfg = s.cfg := rfl
@[simp] theorem State.recordPred_env (s : State) (m : BitVec 8) : (s.recordPred m).env = s.env := rfl

@[simp] theorem State.recordInvalid_r (s : State) (b : Bool) : (s.recordInvalid b).r = s.r := rfl
@[simp] theorem State.recordInvalid_x (s : State) (b : Bool) : (s.recordInvalid b).x = s.x := rfl
@[simp] theorem State.recordInvalid_sp (s : State) (b : Bool) : (s.recordInvalid b).sp = s.sp := rfl
@[simp] theorem State.recordInvalid_pc (s : State) (b : Bool) : (s.recordInvalid b).pc = s.pc := rfl
@[simp] theorem State.recordInvalid_flags (s : State) (b : Bool) : (s.recordInvalid b).flags = s.flags := rfl
@[simp] theorem State.recordInvalid_mode (s : State) (b : Bool) : (s.recordInvalid b).mode = s.mode := rfl
@[simp] theorem State.recordInvalid_priv (s : State) (b : Bool) : (s.recordInvalid b).priv = s.priv := rfl
@[simp] theorem State.recordInvalid_itstate (s : State) (b : Bool) : (s.recordInvalid b).itstate = s.itstate := rfl
@[simp] theorem State.recordInvalid_vec (s : State) (b : Bool) : (s.recordInvalid b).vec = s.vec := rfl
@[simp] theorem State.recordInvalid_vstat (s : State) (b : Bool) :
    (s.recordInvalid b).vstat = { s.vstat with ioc := s.vstat.ioc || b } :=
  rfl
@[simp] theorem State.recordInvalid_lock (s : State) (b : Bool) : (s.recordInvalid b).lock = s.lock := rfl
@[simp] theorem State.recordInvalid_sysRegs (s : State) (b : Bool) : (s.recordInvalid b).sysRegs = s.sysRegs := rfl
@[simp] theorem State.recordInvalid_mem (s : State) (b : Bool) : (s.recordInvalid b).mem = s.mem := rfl
@[simp] theorem State.recordInvalid_ctx (s : State) (b : Bool) : (s.recordInvalid b).ctx = s.ctx := rfl
@[simp] theorem State.recordInvalid_lastExit (s : State) (b : Bool) : (s.recordInvalid b).lastExit = s.lastExit := rfl
@[simp] theorem State.recordInvalid_raised (s : State) (b : Bool) : (s.recordInvalid b).raised = s.raised := rfl
@[simp] theorem State.recordInvalid_cfg (s : State) (b : Bool) : (s.recordInvalid b).cfg = s.cfg := rfl
@[simp] theorem State.recordInvalid_env (s : State) (b : Bool) : (s.recordInvalid b).env = s.env := rfl

theorem State.getV_setV_self (s : State) (i : Fin 16) (v : DWord) : (s.setV i v).getV i = v := by
  simp [State.getV, State.setV]

theorem State.getV_setV_of_ne (s : State) {i j : Fin 16} (h : i ≠ j) (v : DWord) : (s.setV i v).getV j = s.getV j := by
  have : i.val ≠ j.val := fun e => h (Fin.ext e)
  simp [State.getV, State.setV, this]

/-! ### Taking an exception, the lock -/

@[simp] theorem State.raise_r (s : State) (c : Cause) (a : Option Access) : (s.raise c a).r = s.r := rfl
@[simp] theorem State.raise_x (s : State) (c : Cause) (a : Option Access) : (s.raise c a).x = s.x := rfl
@[simp] theorem State.raise_sp (s : State) (c : Cause) (a : Option Access) : (s.raise c a).sp = s.sp := rfl
@[simp] theorem State.raise_pc (s : State) (c : Cause) (a : Option Access) : (s.raise c a).pc = s.pc := rfl
@[simp] theorem State.raise_flags (s : State) (c : Cause) (a : Option Access) : (s.raise c a).flags = s.flags := rfl
@[simp] theorem State.raise_mode (s : State) (c : Cause) (a : Option Access) : (s.raise c a).mode = s.mode := rfl
@[simp] theorem State.raise_priv (s : State) (c : Cause) (a : Option Access) : (s.raise c a).priv = s.priv := rfl
@[simp] theorem State.raise_itstate (s : State) (c : Cause) (a : Option Access) :
    (s.raise c a).itstate = s.itstate :=
  rfl
@[simp] theorem State.raise_vec (s : State) (c : Cause) (a : Option Access) : (s.raise c a).vec = s.vec := rfl
@[simp] theorem State.raise_vstat (s : State) (c : Cause) (a : Option Access) : (s.raise c a).vstat = s.vstat := rfl
@[simp] theorem State.raise_lock (s : State) (c : Cause) (a : Option Access) : (s.raise c a).lock = s.lock := rfl
@[simp] theorem State.raise_sysRegs (s : State) (c : Cause) (a : Option Access) :
    (s.raise c a).sysRegs = s.sysRegs :=
  rfl
@[simp] theorem State.raise_mem (s : State) (c : Cause) (a : Option Access) : (s.raise c a).mem = s.mem := rfl
@[simp] theorem State.raise_ctx (s : State) (c : Cause) (a : Option Access) : (s.raise c a).ctx = s.ctx := rfl
@[simp] theorem State.raise_lastExit (s : State) (c : Cause) (a : Option Access) :
    (s.raise c a).lastExit = s.lastExit :=
  rfl
@[simp] theorem State.raise_raised (s : State) (c : Cause) (a : Option Access) :
    (s.raise c a).raised = some ⟨c, s.pc, a⟩ :=
  rfl
@[simp] theorem State.raise_cfg (s : State) (c : Cause) (a : Option Access) : (s.raise c a).cfg = s.cfg := rfl
@[simp] theorem State.raise_env (s : State) (c : Cause) (a : Option Access) : (s.raise c a).env = s.env := rfl

@[simp] theorem State.undef_r (s : State) : (s.undef).r = s.r := rfl
@[simp] theorem State.undef_x (s : State) : (s.undef).x = s.x := rfl
@[simp] theorem State.undef_sp (s : State) : (s.undef).sp = s.sp := rfl
@[simp] theorem State.undef_pc (s : State) : (s.undef).pc = s.pc := rfl
@[simp] theorem State.undef_flags (s : State) : (s.undef).flags = s.flags := rfl
@[simp] theorem State.undef_mode (s : State) : (s.undef).mode = s.mode := rfl
@[simp] theorem State.undef_priv (s : State) : (s.undef).priv = s.priv := rfl
@[simp] theorem State.undef_itstate (s : State) : (s.undef).itstate = s.itstate := rfl
@[simp] theorem State.undef_vec (s : State) : (s.undef).vec = s.vec := rfl
@[simp] theorem State.undef_vstat (s : State) : (s.undef).vstat = s.vstat := rfl
@[simp] theorem State.undef_lock (s : State) : (s.undef).lock = s.lock := rfl
@[simp] theorem State.undef_sysRegs (s : State) : (s.undef).sysRegs = s.sysRegs := rfl
@[simp] theorem State.undef_mem (s : State) : (s.undef).mem = s.mem := rfl
@[simp] theorem State.undef_ctx (s : State) : (s.undef).ctx = s.ctx := rfl
@[simp] theorem State.undef_lastExit (s : State) : (s.undef).lastExit = s.lastExit := rfl
@[simp] theorem State.undef_raised (s : State) : (s.undef).raised = some ⟨.undef, s.pc, none⟩ := rfl
@[simp] theorem State.undef_cfg (s : State) : (s.undef).cfg = s.cfg := rfl
@[simp] theorem State.undef_env (s : State) : (s.undef).env = s.env := rfl

@[simp] theorem State.debug_r (s : State) : (s.debug).r = s.r := rfl
@[simp] theorem State.debug_x (s : State) : (s.debug).x = s.x := rfl
@[simp] theorem State.debug_sp (s : State) : (s.debug).sp = s.sp := rfl
@[simp] theorem State.debug_pc (s : State) : (s.debug).pc = s.pc := rfl
@[simp] theorem State.debug_flags (s : State) : (s.debug).flags = s.flags := rfl
@[simp] theorem State.debug_mode (s : State) : (s.debug).mode = s.mode := rfl
@[simp] theorem State.debug_priv (s : State) : (s.debug).priv = s.priv := rfl
@[simp] theorem State.debug_itstate (s : State) : (s.debug).itstate = s.itstate := rfl
@[simp] theorem State.debug_vec (s : State) : (s.debug).vec = s.vec := rfl
@[simp] theorem State.debug_vstat (s : State) : (s.debug).vstat = s.vstat := rfl
@[simp] theorem State.debug_lock (s : State) : (s.debug).lock = s.lock := rfl
@[simp] theorem State.debug_sysRegs (s : State) : (s.debug).sysRegs = s.sysRegs := rfl
@[simp] theorem State.debug_mem (s : State) : (s.debug).mem = s.mem := rfl
@[simp] theorem State.debug_ctx (s : State) : (s.debug).ctx = s.ctx := rfl
@[simp] theorem State.debug_lastExit (s : State) : (s.debug).lastExit = s.lastExit := rfl
@[simp] theorem State.debug_raised (s : State) : (s.debug).raised = some ⟨.debug, s.pc, none⟩ := rfl
@[simp] theorem State.debug_cfg (s : State) : (s.debug).cfg = s.cfg := rfl
@[simp] theorem State.debug_env (s : State) : (s.debug).env = s.env := rfl

@[simp] theorem State.fetchAbort_r (s : State) : (s.fetchAbort).r = s.r := rfl
@[simp] theorem State.fetchAbort_x (s : State) : (s.fetchAbort).x = s.x := rfl
@[simp] theorem State.fetchAbort_sp (s : State) : (s.fetchAbort).sp = s.sp := rfl
@[simp] theorem State.fetchAbort_pc (s : State) : (s.fetchAbort).pc = s.pc := rfl
@[simp] theorem State.fetchAbort_flags (s : State) : (s.fetchAbort).flags = s.flags := rfl
@[simp] theorem State.fetchAbort_mode (s : State) : (s.fetchAbort).mode = s.mode := rfl
@[simp] theorem State.fetchAbort_priv (s : State) : (s.fetchAbort).priv = s.priv := rfl
@[simp] theorem State.fetchAbort_itstate (s : State) : (s.fetchAbort).itstate = s.itstate := rfl
@[simp] theorem State.fetchAbort_vec (s : State) : (s.fetchAbort).vec = s.vec := rfl
@[simp] theorem State.fetchAbort_vstat (s : State) : (s.fetchAbort).vstat = s.vstat := rfl
@[simp] theorem State.fetchAbort_lock (s : State) : (s.fetchAbort).lock = s.lock := rfl
@[simp] theorem State.fetchAbort_sysRegs (s : State) : (s.fetchAbort).sysRegs = s.sysRegs := rfl
@[simp] theorem State.fetchAbort_mem (s : State) : (s.fetchAbort).mem = s.mem := rfl
@[simp] theorem State.fetchAbort_ctx (s : State) : (s.fetchAbort).ctx = s.ctx := rfl
@[simp] theorem State.fetchAbort_lastExit (s : State) : (s.fetchAbort).lastExit = s.lastExit := rfl
@[simp] theorem State.fetchAbort_raised (s : State) : (s.fetchAbort).raised = some ⟨.fetchAbort, s.pc, none⟩ := rfl
@[simp] theorem State.fetchAbort_cfg (s : State) : (s.fetchAbort).cfg = s.cfg := rfl
@[simp] theorem State.fetchAbort_env (s : State) : (s.fetchAbort).env = s.env := rfl

@[simp] theorem State.dataAbort_r (s : State) (a : Access) : (s.dataAbort a).r = s.r := rfl
@[simp] theorem State.dataAbort_x (s : State) (a : Access) : (s.dataAbort a).x = s.x := rfl
@[simp] theorem State.dataAbort_sp (s : State) (a : Access) : (s.dataAbort a).sp = s.sp := rfl
@[simp] theorem State.dataAbort_pc (s : State) (a : Access) : (s.dataAbort a).pc = s.pc := rfl
@[simp] theorem State.dataAbort_flags (s : State) (a : Access) : (s.dataAbort a).flags = s.flags := rfl
@[simp] theorem State.dataAbort_mode (s : State) (a : Access) : (s.dataAbort a).mode = s.mode := rfl
@[simp] theorem State.dataAbort_priv (s : State) (a : Access) : (s.dataAbort a).priv = s.priv := rfl
@[simp] theorem State.dataAbort_itstate (s : State) (a : Access) : (s.dataAbort a).itstate = s.itstate := rfl
@[simp] theorem State.dataAbort_vec (s : State) (a : Access) : (s.dataAbort a).vec = s.vec := rfl
@[simp] theorem State.dataAbort_vstat (s : State) (a : Access) : (s.dataAbort a).vstat = s.vstat := rfl
@[simp] theorem State.dataAbort_lock (s : State) (a : Access) : (s.dataAbort a).lock = s.lock := rfl
@[simp] theorem State.dataAbort_sysRegs (s : State) (a : Access) : (s.dataAbort a).sysRegs = s.sysRegs := rfl
@[simp] theorem State.dataAbort_mem (s : State) (a : Access) : (s.dataAbort a).mem = s.mem := rfl
@[simp] theorem State.dataAbort_ctx (s : State) (a : Access) : (s.dataAbort a).ctx = s.ctx := rfl
@[simp] theorem State.dataAbort_lastExit (s : State) (a : Access) : (s.dataAbort a).lastExit = s.lastExit := rfl
@[simp] theorem State.dataAbort_raised (s : State) (a : Access) :
    (s.dataAbort a).raised = some ⟨.dataAbort, s.pc, some a⟩ :=
  rfl
@[simp] theorem State.dataAbort_cfg (s : State) (a : Access) : (s.dataAbort a).cfg = s.cfg := rfl
@[simp] theorem State.dataAbort_env (s : State) (a : Access) : (s.dataAbort a).env = s.env := rfl

@[simp] theorem State.acquire_r (s : State) : (s.acquire).r = s.r := rfl
@[simp] theorem State.acquire_x (s : State) : (s.acquire).x = s.x := rfl
@[simp] theorem State.acquire_sp (s : State) : (s.acquire).sp = s.sp := rfl
@[simp] theorem State.acquire_pc (s : State) : (s.acquire).pc = s.pc := rfl
@[simp] theorem State.acquire_flags (s : State) : (s.acquire).flags = s.flags := rfl
@[simp] theorem State.acquire_mode (s : State) : (s.acquire).mode = s.mode := rfl
@[simp] theorem State.acquire_priv (s : State) : (s.acquire).priv = s.priv := rfl
@[simp] theorem State.acquire_itstate (s : State) : (s.acquire).itstate = s.itstate := rfl
@[simp] theorem State.acquire_vec (s : State) : (s.acquire).vec = s.vec := rfl
@[simp] theorem State.acquire_vstat (s : State) : (s.acquire).vstat = s.vstat := rfl
@[simp] theorem State.acquire_lock (s : State) : (s.acquire).lock = .held := rfl
@[simp] theorem State.acquire_sysRegs (s : State) : (s.acquire).sysRegs = s.sysRegs := rfl
@[simp] theorem State.acquire_mem (s : State) : (s.acquire).mem = s.mem := rfl
@[simp] theorem State.acquire_ctx (s : State) : (s.acquire).ctx = s.ctx := rfl
@[simp] theorem State.acquire_lastExit (s : State) : (s.acquire).lastExit = s.lastExit := rfl
@[simp] theorem State.acquire_raised (s : State) : (s.acquire).raised = s.raised := rfl
@[simp] theorem State.acquire_cfg (s : State) : (s.acquire).cfg = s.cfg := rfl
@[simp] theorem State.acquire_env (s : State) : (s.acquire).env = s.env := rfl

@[simp] theorem State.release_r (s : State) : (s.release).r = s.r := rfl
@[simp] theorem State.release_x (s : State) : (s.release).x = s.x := rfl
@[simp] theorem State.release_sp (s : State) : (s.release).sp = s.sp := rfl
@[simp] theorem State.release_pc (s : State) : (s.release).pc = s.pc := rfl
@[simp] theorem State.release_flags (s : State) : (s.release).flags = s.flags := rfl
@[simp] theorem State.release_mode (s : State) : (s.release).mode = s.mode := rfl
@[simp] theorem State.release_priv (s : State) : (s.release).priv = s.priv := rfl
@[simp] theorem State.release_itstate (s : State) : (s.release).itstate = s.itstate := rfl
@[simp] theorem State.release_vec (s : State) : (s.release).vec = s.vec := rfl
@[simp] theorem State.release_vstat (s : State) : (s.release).vstat = s.vstat := rfl
@[simp] theorem State.release_lock (s : State) : (s.release).lock = .free := rfl
@[simp] theorem State.release_sysRegs (s : State) : (s.release).sysRegs = s.sysRegs := rfl
@[simp] theorem State.release_mem (s : State) : (s.release).mem = s.mem := rfl
@[simp] theorem State.release_ctx (s : State) : (s.release).ctx = s.ctx := rfl
@[simp] theorem State.release_lastExit (s : State) : (s.release).lastExit = s.lastExit := rfl
@[simp] theorem State.release_raised (s : State) : (s.release).raised = s.raised := rfl
@[simp] theorem State.release_cfg (s : State) : (s.release).cfg = s.cfg := rfl
@[simp] theorem State.release_env (s : State) : (s.release).env = s.env := rfl

/-! ### The base written back -/

@[simp] theorem State.writeBack32_x (s : State) (i : Fin 16) (b : Option Word) : (s.writeBack32 i b).x = s.x :=
  by cases b <;> simp [State.writeBack32]
@[simp] theorem State.writeBack32_sp (s : State) (i : Fin 16) (b : Option Word) : (s.writeBack32 i b).sp = s.sp :=
  by cases b <;> simp [State.writeBack32]
@[simp] theorem State.writeBack32_pc (s : State) (i : Fin 16) (b : Option Word) : (s.writeBack32 i b).pc = s.pc :=
  by cases b <;> simp [State.writeBack32]
@[simp] theorem State.writeBack32_flags (s : State) (i : Fin 16) (b : Option Word) :
    (s.writeBack32 i b).flags = s.flags :=
  by cases b <;> simp [State.writeBack32]
@[simp] theorem State.writeBack32_mode (s : State) (i : Fin 16) (b : Option Word) :
    (s.writeBack32 i b).mode = s.mode :=
  by cases b <;> simp [State.writeBack32]
@[simp] theorem State.writeBack32_priv (s : State) (i : Fin 16) (b : Option Word) :
    (s.writeBack32 i b).priv = s.priv :=
  by cases b <;> simp [State.writeBack32]
@[simp] theorem State.writeBack32_itstate (s : State) (i : Fin 16) (b : Option Word) :
    (s.writeBack32 i b).itstate = s.itstate :=
  by cases b <;> simp [State.writeBack32]
@[simp] theorem State.writeBack32_vec (s : State) (i : Fin 16) (b : Option Word) :
    (s.writeBack32 i b).vec = s.vec :=
  by cases b <;> simp [State.writeBack32]
@[simp] theorem State.writeBack32_vstat (s : State) (i : Fin 16) (b : Option Word) :
    (s.writeBack32 i b).vstat = s.vstat :=
  by cases b <;> simp [State.writeBack32]
@[simp] theorem State.writeBack32_lock (s : State) (i : Fin 16) (b : Option Word) :
    (s.writeBack32 i b).lock = s.lock :=
  by cases b <;> simp [State.writeBack32]
@[simp] theorem State.writeBack32_sysRegs (s : State) (i : Fin 16) (b : Option Word) :
    (s.writeBack32 i b).sysRegs = s.sysRegs :=
  by cases b <;> simp [State.writeBack32]
@[simp] theorem State.writeBack32_mem (s : State) (i : Fin 16) (b : Option Word) :
    (s.writeBack32 i b).mem = s.mem :=
  by cases b <;> simp [State.writeBack32]
@[simp] theorem State.writeBack32_ctx (s : State) (i : Fin 16) (b : Option Word) :
    (s.writeBack32 i b).ctx = s.ctx :=
  by cases b <;> simp [State.writeBack32]
@[simp] theorem State.writeBack32_lastExit (s : State) (i : Fin 16) (b : Option Word) :
    (s.writeBack32 i b).lastExit = s.lastExit :=
  by cases b <;> simp [State.writeBack32]
@[simp] theorem State.writeBack32_raised (s : State) (i : Fin 16) (b : Option Word) :
    (s.writeBack32 i b).raised = s.raised :=
  by cases b <;> simp [State.writeBack32]
@[simp] theorem State.writeBack32_cfg (s : State) (i : Fin 16) (b : Option Word) :
    (s.writeBack32 i b).cfg = s.cfg :=
  by cases b <;> simp [State.writeBack32]
@[simp] theorem State.writeBack32_env (s : State) (i : Fin 16) (b : Option Word) :
    (s.writeBack32 i b).env = s.env :=
  by cases b <;> simp [State.writeBack32]

@[simp] theorem State.writeBackX_r (s : State) (i : Fin 32) (b : Option DWord) : (s.writeBackX i b).r = s.r :=
  by cases b <;> simp [State.writeBackX]
@[simp] theorem State.writeBackX_pc (s : State) (i : Fin 32) (b : Option DWord) : (s.writeBackX i b).pc = s.pc :=
  by cases b <;> simp [State.writeBackX]
@[simp] theorem State.writeBackX_flags (s : State) (i : Fin 32) (b : Option DWord) :
    (s.writeBackX i b).flags = s.flags :=
  by cases b <;> simp [State.writeBackX]
@[simp] theorem State.writeBackX_mode (s : State) (i : Fin 32) (b : Option DWord) :
    (s.writeBackX i b).mode = s.mode :=
  by cases b <;> simp [State.writeBackX]
@[simp] theorem State.writeBackX_priv (s : State) (i : Fin 32) (b : Option DWord) :
    (s.writeBackX i b).priv = s.priv :=
  by cases b <;> simp [State.writeBackX]
@[simp] theorem State.writeBackX_itstate (s : State) (i : Fin 32) (b : Option DWord) :
    (s.writeBackX i b).itstate = s.itstate :=
  by cases b <;> simp [State.writeBackX]
@[simp] theorem State.writeBackX_vec (s : State) (i : Fin 32) (b : Option DWord) :
    (s.writeBackX i b).vec = s.vec :=
  by cases b <;> simp [State.writeBackX]
@[simp] theorem State.writeBackX_vstat (s : State) (i : Fin 32) (b : Option DWord) :
    (s.writeBackX i b).vstat = s.vstat :=
  by cases b <;> simp [State.writeBackX]
@[simp] theorem State.writeBackX_lock (s : State) (i : Fin 32) (b : Option DWord) :
    (s.writeBackX i b).lock = s.lock :=
  by cases b <;> simp [State.writeBackX]
@[simp] theorem State.writeBackX_sysRegs (s : State) (i : Fin 32) (b : Option DWord) :
    (s.writeBackX i b).sysRegs = s.sysRegs :=
  by cases b <;> simp [State.writeBackX]
@[simp] theorem State.writeBackX_mem (s : State) (i : Fin 32) (b : Option DWord) :
    (s.writeBackX i b).mem = s.mem :=
  by cases b <;> simp [State.writeBackX]
@[simp] theorem State.writeBackX_ctx (s : State) (i : Fin 32) (b : Option DWord) :
    (s.writeBackX i b).ctx = s.ctx :=
  by cases b <;> simp [State.writeBackX]
@[simp] theorem State.writeBackX_lastExit (s : State) (i : Fin 32) (b : Option DWord) :
    (s.writeBackX i b).lastExit = s.lastExit :=
  by cases b <;> simp [State.writeBackX]
@[simp] theorem State.writeBackX_raised (s : State) (i : Fin 32) (b : Option DWord) :
    (s.writeBackX i b).raised = s.raised :=
  by cases b <;> simp [State.writeBackX]
@[simp] theorem State.writeBackX_cfg (s : State) (i : Fin 32) (b : Option DWord) :
    (s.writeBackX i b).cfg = s.cfg :=
  by cases b <;> simp [State.writeBackX]
@[simp] theorem State.writeBackX_env (s : State) (i : Fin 32) (b : Option DWord) :
    (s.writeBackX i b).env = s.env :=
  by cases b <;> simp [State.writeBackX]

end Sys2Proof.Machine
end

