-- ==== Sys2Proof/Laws/Ops.lean ====
section
/-! SUPPORT. What each shared operation can do, said once: the proofs about instructions cite these and do not unfold the
operation. -/

namespace Sys2Proof.Machine

/-! ### The shapes of an instruction -/

theorem f32Run_pass {c : Cond} {s : State} (h : s.passes c) (body : State → State) :
    f32Run c s body = .next (body s) := by
  simp only [State.passes] at h
  simp [f32Run, h]

theorem f32Run_fail {c : Cond} {s : State} (h : s.flags.condPassed c = false) (body : State → State) :
    f32Run c s body = .next s.next4 := by simp [f32Run, h]

/-- An F32 instruction ends in its effect or is skipped. -/
theorem f32Run_eq_next {c : Cond} {s t : State} {body : State → State} :
    f32Run c s body = .next t ↔ (s.passes c ∧ t = body s) ∨ (¬ s.passes c ∧ t = s.next4) := by
  by_cases h : s.passes c
  · rw [f32Run_pass h]
    simp [h, eq_comm]
  · rw [f32Run_fail (by simpa [State.passes] using h)]
    simp [h, eq_comm]

theorem c16Run_pass {legal : State → Bool} {s : State} (h : s.slotRuns) (hl : legal s = true) (body : State → State) :
    c16Run legal s body = .next (body s) := by
  simp only [State.slotRuns] at h
  simp [c16Run, h, hl]

theorem c16Run_illegal {legal : State → Bool} {s : State} (h : s.slotRuns) (hl : legal s = false)
    (body : State → State) : c16Run legal s body = .next s.undef := by
  simp only [State.slotRuns] at h
  simp [c16Run, h, hl]

theorem c16Run_fail {legal : State → Bool} {s : State} (h : s.slotPassed = false) (body : State → State) :
    c16Run legal s body = .next s.finish2 := by simp [c16Run, h]

/-- A C16 instruction is skipped, raises `Undefined`, or ends in its effect. -/
theorem c16Run_eq_next {legal : State → Bool} {s t : State} {body : State → State} :
    c16Run legal s body = .next t ↔
      (¬ s.slotRuns ∧ t = s.finish2) ∨ (s.slotRuns ∧ legal s = false ∧ t = s.undef) ∨
      (s.slotRuns ∧ legal s = true ∧ t = body s) := by
  simp only [c16Run, State.slotRuns, Host.Outcome.next.injEq]
  cases s.slotPassed <;> cases legal s <;> simp [eq_comm]

theorem undef_eq (s : State) : s.undef = { s with raised := some ⟨.undef, s.pc, none⟩ } := rfl

/-! ### Flags -/

theorem setNZ_eq {w : Nat} (f : Flags) (r : BitVec w) : f.setNZ r = bitFlags f r f.c := by
  simp [Flags.setNZ, bitFlags, Bool.beq_eq_decide_eq]

theorem logical_eq {w : Nat} (f : Flags) (r : BitVec w) (c : Bool) : f.logical r c = bitFlags f r c := by
  simp [Flags.logical, Flags.setNZ, bitFlags, Bool.beq_eq_decide_eq]

/-! ### Data processing -/

theorem op2Uses15_eq_false {o : F32.Op2} {rn rd : Fin 16} : op2Uses15 o rn rd = false ↔ op2Clear o rn rd := by
  cases o <;> simp [op2Clear, op2Uses15, and_assoc]

/-- A data-processing opcode that writes `Rd` raises `Undefined`, branches, or writes its result and flags. -/
theorem dataProcessing_pass {f : F32.DP} {s : State} (hc : s.passes f.cond) (alu : Alu) :
    dataProcessing alu f s = .next (
      let out := alu (s.rF f.rn) (s.op2 f.op2).value s.flags.c
      let t := { s with flags := if f.s then out.flags s.flags (s.op2 f.op2).carry else s.flags }
      if op2Uses15 f.op2 f.rn f.rd = true ∨ (f.s = true ∧ f.rd = 15) then s.undef
      else if f.rd = 15 then t.branchF out.res else (t.setR f.rd out.res).next4) := by
  rw [dataProcessing, f32Run_pass hc]
  cases f.s <;> simp

/-! ### The memory port -/

/-- A read that the port answers. -/
theorem load_ok {s : State} {sp : Space} {acc : Priv} {a : DWord} {n : Nat} (h : s.aborts .read a n acc = false) :
    s.load sp acc a n = .ok (bytesAt s.mem s.cfg.endian sp.bits a.toNat n) := by
  simp only [State.load, h, Memory.load_eq, Bool.false_eq_true, if_false]

theorem load_abort {s : State} {sp : Space} {acc : Priv} {a : DWord} {n : Nat} (h : s.aborts .read a n acc = true) :
    s.load sp acc a n = .error ⟨a, false, n⟩ := by simp [State.load, h]

/-- A write that the port answers. -/
theorem store_ok {s : State} {sp : Space} {acc : Priv} {a : DWord} {n : Nat} (h : s.aborts .write a n acc = false)
    (v : Nat) :
    s.store sp acc a n v = .ok { s with mem := Memory.store s.mem s.cfg.endian sp.bits a.toNat n v } := by
  simp only [State.store, h, Bool.false_eq_true, if_false]

theorem store_abort {s : State} {sp : Space} {acc : Priv} {a : DWord} {n : Nat} (h : s.aborts .write a n acc = true)
    (v : Nat) : s.store sp acc a n v = .error ⟨a, true, n⟩ := by simp [State.store, h]

theorem toNat_wide (a : Word) : (a.setWidth 64).toNat = a.toNat := by
  rw [BitVec.toNat_setWidth, Nat.mod_eq_of_lt (by omega)]

theorem load32_ok {s : State} {acc : Priv} {a : Word} {n : Nat} (h : s.canRead32 acc a n) :
    s.load32 acc a n = .ok (s.narrowAt a n) := by
  rw [State.load32, load_ok h, toNat_wide]
  rfl

theorem store32_ok {s : State} {acc : Priv} {a : Word} {n : Nat} (h : s.canWrite32 acc a n) (v : Nat) :
    s.store32 acc a n v = .ok { s with mem := Memory.store s.mem s.cfg.endian 32 a.toNat n v } := by
  rw [State.store32, store_ok h, toNat_wide]
  rfl

/-- What a store leaves: the port, the registers and the flags as they were, memory in canonical form. -/
theorem store_frame {s t : State} {sp : Space} {acc : Priv} {a : DWord} {n v : Nat} (h : s.store sp acc a n v = .ok t) :
    t = { s with mem := t.mem } ∧ (Memory.wf s.mem = true → Memory.wf t.mem = true) := by
  unfold State.store at h
  split at h
  · cases h
  · injection h with h
    subst h
    exact ⟨rfl, fun hm => Memory.wf_store hm _ (by cases sp <;> simp [Space.bits]) _ _ _⟩

/-- The next word of a transfer. -/
theorem word_succ (a : Word) (k : Nat) : a + 4 + BitVec.ofNat 32 (4 * k) = a + BitVec.ofNat 32 (4 * (k + 1)) := by
  rw [show 4 * (k + 1) = 4 + 4 * k by omega, BitVec.ofNat_add, BitVec.add_assoc]
  rfl

/-- The words of a multiple transfer, if every request is answered. -/
theorem loadWords_ok {s : State} (l : List (Fin 16)) (a : Word)
    (h : ∀ k, k < l.length → s.canRead32 s.priv (a + BitVec.ofNat 32 (4 * k)) 4) :
    s.loadWords a l = .ok (l.zipIdx.map fun p => (p.1, BitVec.ofNat 32 (s.narrowAt (a + BitVec.ofNat 32 (4 * p.2)) 4))) := by
  induction l generalizing a with
  | nil => rfl
  | cons i rs ih =>
    have e := word_succ a
    have h0 : s.canRead32 s.priv a 4 := by simpa using h 0 (by simp)
    have hr : ∀ k, k < rs.length → s.canRead32 s.priv (a + 4 + BitVec.ofNat 32 (4 * k)) 4 := by
      intro k hk
      rw [e]
      exact h (k + 1) (by simpa using hk)
    rw [State.loadWords, load32_ok h0, ih _ hr]
    simp only [List.zipIdx_cons', List.map_cons, List.map_map, Function.comp_def, e]
    simp

/-- Memory after a multiple store, if every request is answered. -/
theorem storeWords_ok {s : State} (vs : List Word) (a : Word) (hm : Memory.wf s.mem = true)
    (h : ∀ k, k < vs.length → s.canWrite32 s.priv (a + BitVec.ofNat 32 (4 * k)) 4) :
    ∃ m, s.storeWords a vs = ({ s with mem := m }, none) ∧ Memory.wf m = true ∧
      ReadsAs m (storedWords (Memory.get s.mem) s.cfg.endian a vs) := by
  induction vs generalizing a s with
  | nil => exact ⟨s.mem, rfl, hm, fun _ => rfl⟩
  | cons v vs ih =>
    have e := word_succ a
    have h0 : s.canWrite32 s.priv a 4 := by simpa using h 0 (by simp)
    rw [State.storeWords, store32_ok h0]
    set t : State := { s with mem := Memory.store s.mem s.cfg.endian 32 a.toNat 4 v.toNat } with ht
    have htm : Memory.wf t.mem = true := Memory.wf_store hm _ (by norm_num) _ _ _
    have htr : ReadsAs t.mem (storedOver (Memory.get s.mem) s.cfg.endian 32 a.toNat 4 v.toNat) :=
      Memory.get_store hm _ (by norm_num) (by omega) (by norm_num) _
    obtain ⟨m, h1, h2, h3⟩ := ih (s := t) (a + 4) htm (by
      intro k hk
      rw [e]
      exact h (k + 1) (by simpa using hk))
    refine ⟨m, h1, h2, ?_⟩
    rw [storedWords, ← show Memory.get t.mem = _ from funext htr]
    exact h3

/-- A multiple transfer ends at the first word that the port refuses to read. -/
theorem loadWords_abort {s : State} (l : List (Fin 16)) (a : Word) (k : Nat) (hk : k < l.length)
    (h : ∀ j, j < k → s.canRead32 s.priv (a + BitVec.ofNat 32 (4 * j)) 4)
    (hr : s.aborts .read ((a + BitVec.ofNat 32 (4 * k)).setWidth 64) 4 s.priv = true) :
    s.loadWords a l = .error ⟨(a + BitVec.ofNat 32 (4 * k)).setWidth 64, false, 4⟩ := by
  induction l generalizing a k with
  | nil => simp at hk
  | cons i rs ih =>
    cases k with
    | zero =>
      simp only [Nat.mul_zero, BitVec.add_zero] at hr ⊢
      rw [State.loadWords, State.load32, load_abort hr]
    | succ k =>
      have h0 : s.canRead32 s.priv a 4 := by simpa using h 0 (by omega)
      rw [State.loadWords, load32_ok h0]
      simp only
      rw [ih (a + 4) k (by simpa using hk) (fun j hj => by rw [word_succ]; exact h (j + 1) (by omega))
        (by rw [word_succ]; exact hr), word_succ]

/-- A multiple store ends at the first word that the port refuses, the words before it stored. -/
theorem storeWords_abort {s : State} (vs : List Word) (a : Word) (k : Nat) (hk : k < vs.length)
    (hm : Memory.wf s.mem = true) (h : ∀ j, j < k → s.canWrite32 s.priv (a + BitVec.ofNat 32 (4 * j)) 4)
    (hr : s.aborts .write ((a + BitVec.ofNat 32 (4 * k)).setWidth 64) 4 s.priv = true) :
    ∃ m, s.storeWords a vs =
        ({ s with mem := m }, some ⟨(a + BitVec.ofNat 32 (4 * k)).setWidth 64, true, 4⟩) ∧
      ReadsAs m (storedWords (Memory.get s.mem) s.cfg.endian a (vs.take k)) := by
  induction vs generalizing a k s with
  | nil => simp at hk
  | cons v vs ih =>
    cases k with
    | zero =>
      simp only [Nat.mul_zero, BitVec.add_zero] at hr ⊢
      exact ⟨s.mem, by rw [State.storeWords, State.store32, store_abort hr], fun _ => rfl⟩
    | succ k =>
      have h0 : s.canWrite32 s.priv a 4 := by simpa using h 0 (by omega)
      rw [State.storeWords, store32_ok h0]
      set t : State := { s with mem := Memory.store s.mem s.cfg.endian 32 a.toNat 4 v.toNat } with ht
      have htm : Memory.wf t.mem = true := Memory.wf_store hm _ (by norm_num) _ _ _
      have htr : ReadsAs t.mem (storedOver (Memory.get s.mem) s.cfg.endian 32 a.toNat 4 v.toNat) :=
        Memory.get_store hm _ (by norm_num) (by omega) (by norm_num) _
      obtain ⟨m, h1, h2⟩ := ih (s := t) (a + 4) k (by simpa using hk) htm
        (fun j hj => by rw [word_succ]; exact h (j + 1) (by omega)) (by rw [word_succ]; exact hr)
      refine ⟨m, by rw [← word_succ]; exact h1, ?_⟩
      rw [List.take_succ_cons, storedWords, ← show Memory.get t.mem = _ from funext htr]
      exact h2

/-! ### Single-register transfers -/

theorem SingleAddr.undefined_eq_false {a : SingleAddr} (h1 : a.rmIs15 = false) (h2 : a.wback = true → a.rn ≠ 15) :
    a.undefined = false := by
  simp only [SingleAddr.undefined, h1, Bool.false_or]
  by_cases hw : a.wback = true <;> simp_all

/-- A single-register load raises `Undefined`, aborts, or writes the base and then the register or the program
counter. -/
theorem loadSingle_eq (s : State) (a : SingleAddr) (acc : Priv) (n : Nat) (ext : Nat → Word) (rd : Fin 16) (p : Bool) :
    loadSingle s a acc n ext rd p =
      if a.undefined = true ∨ (rd = 15 ∧ p = false) then s.undef
      else if s.aborts .read ((a.resolve s).address.setWidth 64) n acc = true then
        s.dataAbort ⟨(a.resolve s).address.setWidth 64, false, n⟩
      else
        let t := s.writeBack32 a.rn (a.resolve s).newBase
        let v := ext (s.narrowAt (a.resolve s).address n)
        if rd = 15 then t.branchExchange v else (t.setR rd v).next4 := by
  unfold loadSingle
  by_cases hu : a.undefined = true ∨ (rd = 15 ∧ p = false)
  · rw [if_pos (by simpa using hu), if_pos hu]
  · rw [if_neg (by simpa using hu), if_neg hu]
    by_cases hb : s.aborts .read ((a.resolve s).address.setWidth 64) n acc = true
    · simp only [State.load32, load_abort hb, hb, if_true]
    · rw [Bool.not_eq_true] at hb
      simp only [load32_ok (show s.canRead32 acc (a.resolve s).address n from hb), hb, Bool.false_eq_true, if_false]

/-- A single-register store raises `Undefined`, aborts, or writes memory and then the base. -/
theorem storeSingle_eq (s : State) (a : SingleAddr) (acc : Priv) (n : Nat) (rd : Fin 16) (p : Bool) :
    storeSingle s a acc n rd p =
      if a.undefined = true ∨ (rd = 15 ∧ p = false) then s.undef
      else if s.aborts .write ((a.resolve s).address.setWidth 64) n acc = true then
        s.dataAbort ⟨(a.resolve s).address.setWidth 64, true, n⟩
      else
        (State.writeBack32
          { s with mem := Memory.store s.mem s.cfg.endian 32 (a.resolve s).address.toNat n (s.storeValue rd).toNat }
          a.rn (a.resolve s).newBase).next4 := by
  unfold storeSingle
  by_cases hu : a.undefined = true ∨ (rd = 15 ∧ p = false)
  · rw [if_pos (by simpa using hu), if_pos hu]
  · rw [if_neg (by simpa using hu), if_neg hu]
    by_cases hb : s.aborts .write ((a.resolve s).address.setWidth 64) n acc = true
    · simp only [State.store32, store_abort hb, hb, if_true]
    · rw [Bool.not_eq_true] at hb
      simp only [store32_ok (show s.canWrite32 acc (a.resolve s).address n from hb), hb, Bool.false_eq_true, if_false]

/-- `sext_N` of a value of `n` bytes. -/
theorem sextTo_eq (n w v : Nat) (hn : 0 < n) (hv : v < 2 ^ (8 * n)) : sextTo (8 * n) w v = signedBytes w n v := by
  simp only [sextTo, signedBytes, BitVec.signExtend]
  congr 1
  rw [BitVec.toInt_eq_toNat_cond, BitVec.toNat_ofNat, Nat.mod_eq_of_lt hv]
  have : 2 ^ (8 * n) = 2 * 2 ^ (8 * n - 1) := by rw [← pow_succ']; congr 1; omega
  split <;> split <;> first | omega | (push_cast; rfl)

theorem narrowAt_lt (s : State) (a : Word) (n : Nat) : s.narrowAt a n < 2 ^ (8 * n) := by
  have := bytesAt_lt s.mem s.cfg.endian 32 a.toNat n
  rwa [show (256 : Nat) = 2 ^ 8 by rfl, ← pow_mul] at this

theorem wideAt_lt (s : State) (a : DWord) (n : Nat) : s.wideAt a n < 2 ^ (8 * n) := by
  have := bytesAt_lt s.mem s.cfg.endian 64 a.toNat n
  rwa [show (256 : Nat) = 2 ^ 8 by rfl, ← pow_mul] at this

/-! ### Lane operations -/

theorem laneOpsOn_iff (s : State) : s.vstat.laneOpsOn = true ↔ s.lanesOn := by
  simp [VecStatus.laneOpsOn, State.lanesOn, and_assoc]

theorem laneRun_pass {legal : F32.VOP → Bool} {f : F32.VOP} {s : State} (hc : s.passes f.cond) (hl : s.lanesOn)
    (h : legal f = true) (body : State → State) : laneRun legal f s body = .next (body s).next4 := by
  rw [laneRun, f32Run_pass hc, (laneOpsOn_iff s).2 hl, h]
  rfl

theorem laneRun_undef {legal : F32.VOP → Bool} {f : F32.VOP} {s : State} (hc : s.passes f.cond)
    (h : ¬ s.lanesOn ∨ legal f = false) (body : State → State) : laneRun legal f s body = .next s.undef := by
  rw [laneRun, f32Run_pass hc]
  rcases h with h | h
  · rw [← laneOpsOn_iff, Bool.not_eq_true] at h
    simp [h]
  · simp [h]

end Sys2Proof.Machine
end

