-- ==== Sys2Proof/Laws/Multiple.lean ====
section
/-! SUPPORT. Multiple-register transfers: the listed registers and their ranks, the addresses in integer arithmetic, the
registers after a multiple load. -/

namespace Sys2Proof.Machine

/-! ### The register list -/

theorem mem_listed (l : BitVec 16) (i : Fin 16) : i ∈ listed l ↔ l.getLsbD i.val = true := by simp [listed]

theorem nodup_listed (l : BitVec 16) : (listed l).Nodup := (List.nodup_finRange 16).filter _

theorem filter_take_finRange (p : Fin 16 → Bool) (n : Nat) :
    (((List.finRange 16).take n).filter p).length
      = ((List.range (min n 16)).filter fun j => if h : j < 16 then p ⟨j, h⟩ else false).length := by
  have e : List.range (min n 16) = ((List.finRange 16).take n).map Fin.val := by
    rw [List.map_take, List.map_coe_finRange_eq_range, List.take_range]
  rw [e, List.filter_map, List.length_map]
  simp [Function.comp_def]

theorem rankIn_eq (l : BitVec 16) {n : Nat} (hn : n ≤ 16) :
    rankIn l n = (((List.finRange 16).take n).filter fun i => l.getLsbD i.val).length := by
  rw [filter_take_finRange, Nat.min_eq_left hn, rankIn]
  congr 1
  apply List.filter_congr
  intro x hx
  have : x < 16 := lt_of_lt_of_le (List.mem_range.1 hx) hn
  simp [this]

theorem length_listed (l : BitVec 16) : (listed l).length = listSize l := by
  rw [listSize, rankIn_eq l le_rfl]
  rfl

/-- The rank of the register at a place of the list is that place. -/
theorem rankIn_getElem (l : BitVec 16) {k : Nat} (h : k < (listed l).length) : rankIn l ((listed l)[k]).val = k := by
  have key : ∀ (xs pre : List (Fin 16)) (p : Fin 16 → Bool) (k : Nat) (h : k < (xs.filter p).length),
      pre ++ xs = List.finRange 16 →
        (((List.finRange 16).take ((xs.filter p)[k]).val).filter p).length = (pre.filter p).length + k := by
    intro xs
    induction xs with
    | nil => intro pre p k h; simp at h
    | cons x xs ih =>
      intro pre p k h hpre
      have hx : x.val = pre.length := by
        have h1 : (List.finRange 16)[pre.length]? = some x := by rw [← hpre]; simp
        rw [List.getElem?_eq_some_iff] at h1
        obtain ⟨_, h2⟩ := h1
        rw [← h2]
        simp
      by_cases hp : p x = true
      · rw [List.filter_cons_of_pos hp] at h
        cases k with
        | zero =>
          simp only [List.filter_cons_of_pos hp, List.getElem_cons_zero, hx]
          rw [← hpre]
          simp
        | succ k =>
          simp only [List.filter_cons_of_pos hp, List.getElem_cons_succ]
          rw [ih (pre ++ [x]) p k (by simpa using h) (by simpa using hpre)]
          simp [List.filter_append, hp]
          omega
      · rw [List.filter_cons_of_neg hp] at h
        simp only [List.filter_cons_of_neg hp]
        rw [ih (pre ++ [x]) p k h (by simpa using hpre)]
        simp [List.filter_append, hp]
  rw [rankIn_eq l (by omega)]
  have := key (List.finRange 16) [] (fun i => l.getLsbD i.val) k h (by simp)
  simpa [listed] using this

/-- A function of the place of a listed register is that function of its rank. -/
theorem zipIdx_listed (l : BitVec 16) (g : Nat → Word) :
    (listed l).zipIdx.map (fun p => (p.1, g p.2)) = (listed l).map fun i => (i, g (rankIn l i.val)) := by
  apply List.ext_getElem
  · simp
  · intro k h1 h2
    have h1 : k < (listed l).length := by simpa using h1
    simp [rankIn_getElem l h1]

/-! ### Addresses -/

theorem resolveMultiple_eq (base : Word) (n : Nat) (p u : Bool) :
    resolveMultiple base n p u = ⟨multiStart base n p u, multiBase base n u⟩ := by
  have e1 : base + BitVec.ofNat 32 (4 * n) = BitVec.ofInt 32 (base.toNat + 4 * n) := by
    apply BitVec.eq_of_toNat_eq; simp [BitVec.toNat_ofInt]; omega
  have e2 : base - BitVec.ofNat 32 (4 * n) = BitVec.ofInt 32 (base.toNat + -(4 * n)) := by
    apply BitVec.eq_of_toNat_eq; simp [BitVec.toNat_ofInt]; omega
  have e3 : base + 4 = BitVec.ofInt 32 (base.toNat + 4) := by
    apply BitVec.eq_of_toNat_eq; simp [BitVec.toNat_ofInt]; omega
  have e4 : base - BitVec.ofNat 32 (4 * n) + 4 = BitVec.ofInt 32 (base.toNat + (4 - 4 * n)) := by
    apply BitVec.eq_of_toNat_eq; simp [BitVec.toNat_ofInt]; omega
  have e5 : base = BitVec.ofInt 32 (base.toNat + 0) := by simp
  cases p <;> cases u <;> simp only [resolveMultiple, multiStart, multiBase, ResolvedMultiple.mk.injEq,
    Bool.false_eq_true, if_true, if_false] <;> refine ⟨?_, ?_⟩ <;> first | exact e4 | exact e1 | exact e2 | exact e3 | exact e5

/-! ### The registers after a multiple load -/

/-- The listed registers take their words and every other register keeps its own. -/
theorem writeLoaded_spec (l : List (Fin 16)) (v : Fin 16 → Word) (s : State) :
    s.writeLoaded (l.map fun i => (i, v i)) = { s with r := (s.writeLoaded (l.map fun i => (i, v i))).r } ∧
    ∀ (k : Nat) (hk : k < 15), (s.writeLoaded (l.map fun i => (i, v i))).r[k] =
      if (⟨k, by omega⟩ : Fin 16) ∈ l then v ⟨k, by omega⟩ else s.r[k] := by
  induction l generalizing s with
  | nil => exact ⟨rfl, fun k hk => by simp [State.writeLoaded]⟩
  | cons j l ih =>
    obtain ⟨h2, h3⟩ := ih (s.setR j (v j))
    simp only [List.map_cons, State.writeLoaded]
    refine ⟨by rw [h2]; simp, ?_⟩
    intro k hk
    rw [h3 k hk]
    by_cases hi : (⟨k, by omega⟩ : Fin 16) ∈ l
    · simp [hi]
    · by_cases hj : j.val = k
      · have e : (⟨k, by omega⟩ : Fin 16) = j := Fin.ext hj.symm
        have : k < 15 := hk
        simp [e, State.setR, hj, this]
      · have e : (⟨k, by omega⟩ : Fin 16) ≠ j := fun e => hj (by rw [← e])
        simp only [hi, if_false, List.mem_cons, e, or_self, State.setR]
        split
        · simp [hj]
        · rfl

/-- The word loaded for register 15. -/
theorem loadedPc_listed (l : BitVec 16) (v : Fin 16 → Word) :
    loadedPc ((listed l).map fun i => (i, v i)) = if l.getLsbD 15 = true then some (v 15) else none := by
  simp only [loadedPc, List.find?_map, Function.comp_def]
  split
  · rename_i h
    have hm : (15 : Fin 16) ∈ listed l := (mem_listed l 15).2 h
    cases hf : (listed l).find? (fun x => decide (x = 15)) with
    | none =>
      rw [List.find?_eq_none] at hf
      exact absurd (decide_eq_true (rfl : (15 : Fin 16) = 15)) (hf 15 hm)
    | some x =>
      have := List.find?_some hf
      simp only [decide_eq_true_eq] at this
      simp [this]
  · rename_i h
    have hf : (listed l).find? (fun x => decide (x = 15)) = none := by
      rw [List.find?_eq_none]
      intro x hx
      simp only [decide_eq_true_eq]
      rintro rfl
      exact h ((mem_listed l 15).1 hx)
    simp only [hf, Option.map_none]

/-- One register after a write. -/
theorem getElem_setR (s : State) (i : Fin 16) (v : Word) (k : Nat) (hk : k < 15) :
    (s.setR i v).r[k] = if i.val = k then v else s.r[k] := by
  unfold State.setR
  split
  · simp [Vector.getElem_set]
  · rw [if_neg (by omega)]

end Sys2Proof.Machine
end

