-- ==== Sys2Proof/Laws/C16.lean ====
section
/-! SUPPORT. What the shapes of a C16 instruction do in a slot that runs. -/

namespace Sys2Proof.Machine

theorem withFlagsS_eq (s : State) (f : Flags) : s.withFlagsS f = { s with flags := s.flagsS f } := by
  simp only [State.withFlagsS, State.flagsS, State.inGroup]
  by_cases h : s.itstate.extractLsb' 0 4 = 0
  · simp [h]
  · simp only [h, if_false, bne_iff_ne.2 h, if_true]

theorem c16Run_always {s : State} (h : s.slotRuns) (body : State → State) : c16Run always s body = .next (body s) :=
  c16Run_pass h rfl body

theorem inGroup_iff (s : State) : s.inGroup = true ↔ s.itstate.toNat % 16 ≠ 0 := by
  simp only [State.inGroup, bne_iff_ne, ne_eq]
  rw [← BitVec.toNat_inj]
  simp

/-! ### Results -/

theorem c16Shift_pass {s : State} (h : s.slotRuns) (rd : Fin 8) (op : State → Shifted) :
    c16Shift rd op s = .next (State.finish2 (State.setR
      { s with flags := s.flagsS (bitFlags s.flags (op s).value (op s).carry) } (low rd) (op s).value)) := by
  simp only [c16Shift, c16Run_always h, withFlagsS_eq, logical_eq, State.resultC]

theorem c16Logical_pass {s : State} (h : s.slotRuns) (rd : Fin 8) (op : State → Word) :
    c16Logical rd op s = .next (State.finish2 (State.setR
      { s with flags := s.flagsS (bitFlags s.flags (op s) s.flags.c) } (low rd) (op s))) := by
  simp only [c16Logical, c16Run_always h, withFlagsS_eq, setNZ_eq, State.resultC]

theorem c16Arith_sum {s : State} (h : s.slotRuns) (rd : Fin 8) (x y : State → Word) (c : State → Bool) :
    c16Arith rd (fun s => addWithCarry (x s) (y s) (c s)) s = .next (State.finish2 (State.setR
      { s with flags := s.flagsS (sumFlags s.flags (x s) (y s) (c s).toNat) } (low rd)
      (sumBits (x s) (y s) (c s).toNat))) := by
  simp only [c16Arith, c16Run_always h, withFlagsS_eq, State.resultC]
  rw [arithmetic_sum (by omega), addWithCarry_res]

theorem c16Arith_diff {s : State} (h : s.slotRuns) (rd : Fin 8) (x y : State → Word) (c : State → Bool) :
    c16Arith rd (fun s => addWithCarry (x s) (~~~(y s)) (c s)) s = .next (State.finish2 (State.setR
      { s with flags := s.flagsS (diffFlags s.flags (x s) (y s) (1 - (c s).toNat)) } (low rd)
      (diffBits (x s) (y s) (1 - (c s).toNat)))) := by
  simp only [c16Arith, c16Run_always h, withFlagsS_eq, State.resultC]
  rw [arithmetic_diff (by omega), addWithCarry_not_res]

theorem c16Compare_sum {s : State} (h : s.slotRuns) {legal : State → Bool} (hl : legal s = true) (x y : State → Word)
    (c : State → Bool) :
    c16Compare legal (fun s => addWithCarry (x s) (y s) (c s)) s =
      .next (State.finish2 { s with flags := sumFlags s.flags (x s) (y s) (c s).toNat }) := by
  simp only [c16Compare]
  rw [c16Run_pass h hl, arithmetic_sum (by omega)]

theorem c16Compare_diff {s : State} (h : s.slotRuns) {legal : State → Bool} (hl : legal s = true) (x y : State → Word)
    (c : State → Bool) :
    c16Compare legal (fun s => addWithCarry (x s) (~~~(y s)) (c s)) s =
      .next (State.finish2 { s with flags := diffFlags s.flags (x s) (y s) (1 - (c s).toNat) }) := by
  simp only [c16Compare]
  rw [c16Run_pass h hl, arithmetic_diff (by omega)]

/-! ### Loads and stores -/

theorem c16Load_ok {s : State} (h : s.slotRuns) (rd : Fin 8) (addr : State → Word) (n : Nat) (ext : Nat → Word)
    (hr : s.canRead32 s.priv (addr s) n) :
    c16Load rd addr n ext s = .next ((s.setR (low rd) (ext (s.narrowAt (addr s) n))).finish2) := by
  simp only [c16Load, c16Run_always h, load32_ok hr, State.resultC]

theorem c16Store_ok {s : State} (h : s.slotRuns) (hm : Memory.wf s.mem = true) (rd : Fin 8) (addr : State → Word)
    {n : Nat} (hn : n ≤ 2 ^ 32) (hw : s.canWrite32 s.priv (addr s) n) :
    ∃ m, c16Store rd addr n s = .next (State.finish2 { s with mem := m }) ∧
      ReadsAs m (storedOver (Memory.get s.mem) s.cfg.endian 32 (addr s).toNat n (s.lo rd).toNat) := by
  simp only [c16Store, c16Run_always h, store32_ok hw, State.rC_low]
  exact ⟨_, rfl, Memory.get_store hm s.cfg.endian (bits := 32) (by omega) (by omega) hn _⟩

theorem c16StoreMultiple_ok {s : State} (h : s.slotRuns) (hm : Memory.wf s.mem = true) {l : BitVec 16} (hl : l ≠ 0)
    (rn : Fin 16) (p u : Bool)
    (hw : ∀ k : Fin 16, l[k] = true →
      s.canWrite32 s.priv (slotAddr l (multiStart (s.rC rn) (listSize l) p u) k) 4) :
    ∃ m, c16StoreMultiple l rn p u s =
        .next (State.setR { s with mem := m } rn (multiBase (s.rC rn) (listSize l) u)).finish2 ∧
      ReadsAs m (storedWords (Memory.get s.mem) s.cfg.endian (multiStart (s.rC rn) (listSize l) p u)
        ((listed l).map s.rC)) := by
  rw [c16StoreMultiple, c16Run_pass h (by simpa using hl)]
  simp only [resolveMultiple_eq, show regList l = listed l from rfl, length_listed]
  obtain ⟨m, h1, _, h3⟩ := storeWords_ok (s := s) ((listed l).map s.rC) (multiStart (s.rC rn) (listSize l) p u) hm (by
    intro k hk
    have hk : k < (listed l).length := by simpa using hk
    have h1 := (mem_listed l ((listed l)[k])).1 (List.getElem_mem hk)
    have h2 := rankIn_getElem l hk
    have := hw ((listed l)[k]) (by simpa using h1)
    rw [slotAddr, h2] at this
    exact this)
  rw [h1]
  exact ⟨m, rfl, h3⟩

theorem c16LoadMultiple_ok {s : State} (h : s.slotRuns) {l : BitVec 16} (hl : l ≠ 0) (rn : Fin 16)
    (hb : l[15] = true → s.mayBranch = true)
    (hr : ∀ k : Fin 16, l[k] = true → s.canRead32 s.priv (slotAddr l (s.rC rn) k) 4) :
    ∃ t : State,
      c16LoadMultiple l rn s = .next (if l[15] then
        (t.branchExchange (BitVec.ofNat 32 (s.narrowAt (slotAddr l (s.rC rn) 15) 4))).advanceIt else t.finish2) ∧
      t = { s with r := t.r } ∧
      ∀ k : Fin 15, t.r[k] =
        if l[k.val]'(by omega) then BitVec.ofNat 32 (s.narrowAt (slotAddr l (s.rC rn) k) 4)
        else if rn.val = k.val then multiBase (s.rC rn) (listSize l) true else s.r[k] := by
  have hlegal : (l != 0 && (!l[15] || s.mayBranch)) = true := by
    simp only [Bool.and_eq_true, bne_iff_ne, ne_eq, hl, not_false_eq_true, true_and, Bool.or_eq_true,
      Bool.not_eq_true']
    cases h15 : l[15]
    · exact .inl rfl
    · exact .inr (hb h15)
  have e : multiStart (s.rC rn) (listSize l) false true = s.rC rn := by simp [multiStart]
  have hw (k : Nat) (hk : k < (listed l).length) : s.canRead32 s.priv (s.rC rn + BitVec.ofNat 32 (4 * k)) 4 := by
    have h1 := (mem_listed l ((listed l)[k])).1 (List.getElem_mem hk)
    have := hr ((listed l)[k]) (by simpa using h1)
    rw [slotAddr, rankIn_getElem l hk] at this
    exact this
  rw [c16LoadMultiple, c16Run_pass h hlegal]
  simp only [resolveMultiple_eq, show regList l = listed l from rfl, length_listed, e]
  rw [loadWords_ok _ _ hw,
    zipIdx_listed l (fun k => BitVec.ofNat 32 (s.narrowAt (s.rC rn + BitVec.ofNat 32 (4 * k)) 4))]
  simp only [loadedPc_listed]
  obtain ⟨h2, h3⟩ := writeLoaded_spec (listed l)
    (fun i => BitVec.ofNat 32 (s.narrowAt (s.rC rn + BitVec.ofNat 32 (4 * rankIn l i.val)) 4))
    (s.setR rn (multiBase (s.rC rn) (listSize l) true))
  refine ⟨(s.setR rn (multiBase (s.rC rn) (listSize l) true)).writeLoaded ((listed l).map fun i =>
    (i, BitVec.ofNat 32 (s.narrowAt (s.rC rn + BitVec.ofNat 32 (4 * rankIn l i.val)) 4))), ?_, ?_, fun k => ?_⟩
  · simp only [BitVec.getLsbD_eq_getElem (show 15 < 16 by omega)]
    by_cases h15 : l[15] = true
    · simp only [h15, if_true]
      rfl
    · simp only [h15]
      rfl
  · rw [h2]
    unfold State.setR
    split <;> rfl
  · rw [show ∀ v : Vector Word 15, v[k] = v[k.val] from fun _ => rfl, h3 k.val k.isLt, getElem_setR _ _ _ _ k.isLt]
    simp only [mem_listed]
    rfl

end Sys2Proof.Machine
end

