-- ==== Sys2Proof/Laws/Lanes.lean ====
section
/-! SUPPORT. What the lane functions do: a lane of a join, the bits of a lane mask, the value of a reduced or clamped
integer. -/

namespace Sys2Proof.Machine

theorem joinNat_lt (w : Nat) (xs : List Nat) : joinNat w xs < 2 ^ (w * xs.length) := by
  induction xs with
  | nil => simp [joinNat]
  | cons x xs ih =>
    have h1 : x % 2 ^ w < 2 ^ w := Nat.mod_lt _ (Nat.two_pow_pos w)
    have h2 : 2 ^ w * (joinNat w xs + 1) ≤ 2 ^ w * 2 ^ (w * xs.length) := Nat.mul_le_mul_left _ ih
    have h3 : 2 ^ (w * (x :: xs).length) = 2 ^ w * 2 ^ (w * xs.length) := by
      rw [← pow_add, List.length_cons, Nat.mul_succ, Nat.add_comm]
    rw [joinNat, h3]
    rw [Nat.mul_add] at h2
    omega

/-- A place of a join. -/
theorem joinNat_place (w : Nat) (xs : List Nat) (j : Nat) :
    joinNat w xs / 2 ^ (w * j) % 2 ^ w = xs.getD j 0 % 2 ^ w := by
  induction xs generalizing j with
  | nil => simp [joinNat]
  | cons x xs ih =>
    have h1 : x % 2 ^ w < 2 ^ w := Nat.mod_lt _ (Nat.two_pow_pos w)
    cases j with
    | zero =>
      rw [joinNat, Nat.mul_zero, pow_zero, Nat.div_one, Nat.add_mul_mod_self_left, Nat.mod_mod]
      rfl
    | succ j =>
      rw [joinNat, Nat.mul_succ, Nat.add_comm (w * j), pow_add, ← Nat.div_div_eq_div_mul,
        Nat.add_mul_div_left _ _ (Nat.two_pow_pos w), Nat.div_eq_of_lt h1, Nat.zero_add, ih]
      rfl

/-- Lane `j` of a join that fills the register is entry `j` reduced to `w` bits (41_lane_semantics.md R181). -/
theorem lane_joinLanes {w : Nat} {xs : List Nat} (hx : w * xs.length = 64) (j : Nat) :
    lane (joinLanes w xs) w j = xs.getD j 0 % 2 ^ w := by
  have h := joinNat_lt w xs
  rw [hx] at h
  rw [lane, joinLanes, BitVec.toNat_ofNat, Nat.mod_eq_of_lt h, joinNat_place]

/-- Bit `j` of a lane mask is entry `j`, and clear past the last lane (41_lane_semantics.md R203). -/
theorem getLsbD_laneMask {ts : List Bool} (ht : ts.length ≤ 8) (j : Nat) :
    (laneMask ts).getLsbD j = ts.getD j false := by
  rw [laneMask, BitVec.getLsbD_ofNat, Nat.testBit_eq_decide_div_mod_eq]
  have h := joinNat_place 1 (ts.map Bool.toNat) j
  rw [Nat.one_mul, pow_one] at h
  rw [h]
  by_cases hj : j < ts.length
  · have e : (ts.map Bool.toNat).getD j 0 = ts[j].toNat := by simp [List.getD, hj]
    rw [e]
    have e2 : ts.getD j false = ts[j] := by simp [List.getD, hj]
    rw [e2]
    have : j < 8 := by omega
    cases ts[j] <;> simp [this]
  · have hj : ts.length ≤ j := Nat.not_lt.1 hj
    simp [List.getD, hj]

theorem lane_lt (c : DWord) (w j : Nat) : lane c w j < 2 ^ w := Nat.mod_lt _ (Nat.two_pow_pos w)

theorem wrapLane_cast (w : Nat) (v : Int) : ((wrapLane w v : Nat) : Int) = v % 2 ^ w :=
  Int.toNat_of_nonneg (Int.emod_nonneg _ (by positivity))

theorem wrapLane_lt (w : Nat) (v : Int) : wrapLane w v < 2 ^ w := by
  have h := Int.emod_lt_of_pos v (show (0 : Int) < 2 ^ w by positivity)
  rw [← wrapLane_cast w v] at h
  exact_mod_cast h

/-- The exact value of a pattern agrees with it modulo the lane (41_lane_semantics.md R182). -/
theorem laneVal_emod (w : Nat) (signed : Bool) (x : Nat) : laneVal w signed x % 2 ^ w = (x : Int) % 2 ^ w := by
  unfold laneVal
  split <;> simp

theorem two_pow_pred {w : Nat} (hw : 0 < w) : (2 : Int) ^ w = 2 * 2 ^ (w - 1) := by
  rw [← pow_succ', Nat.sub_add_cancel hw]

theorem laneVal_of_nonneg {w : Nat} (hw : 0 < w) {signed : Bool} {v : Int} (h0 : 0 ≤ v) (h1 : v ≤ laneHi w signed) :
    laneVal w signed (wrapLane w v) = v := by
  have hp := two_pow_pred hw
  have hpos : (0 : Int) < 2 ^ (w - 1) := by positivity
  have hv : ((wrapLane w v : Nat) : Int) = v := by
    rw [wrapLane_cast, Int.emod_eq_of_lt h0]
    unfold laneHi at h1
    split at h1 <;> omega
  unfold laneVal
  split
  · rename_i h
    simp only [Bool.and_eq_true, decide_eq_true_eq] at h
    obtain ⟨hs, h⟩ := h
    have h : ((2 ^ (w - 1) : Nat) : Int) ≤ (wrapLane w v : Nat) := by exact_mod_cast h
    rw [hv] at h
    push_cast at h
    simp only [laneHi, hs, if_true] at h1
    omega
  · exact hv

theorem laneVal_of_neg {w : Nat} (hw : 0 < w) {v : Int} (h0 : v < 0) (h1 : -2 ^ (w - 1) ≤ v) :
    laneVal w true (wrapLane w v) = v := by
  have hp := two_pow_pred hw
  have hpos : (0 : Int) < 2 ^ (w - 1) := by positivity
  have hv : ((wrapLane w v : Nat) : Int) = v + 2 ^ w := by
    rw [wrapLane_cast, ← Int.add_emod_right, Int.emod_eq_of_lt] <;> omega
  unfold laneVal
  rw [if_pos, hv]
  · omega
  · have : ((2 ^ (w - 1) : Nat) : Int) ≤ (wrapLane w v : Nat) := by
      rw [hv]
      push_cast
      omega
    simpa using (by exact_mod_cast this : 2 ^ (w - 1) ≤ wrapLane w v)

/-- A number in the range of a lane is the value of its reduction. -/
theorem laneVal_wrapLane {w : Nat} (hw : 0 < w) {signed : Bool} {v : Int} (h0 : laneLo w signed ≤ v)
    (h1 : v ≤ laneHi w signed) : laneVal w signed (wrapLane w v) = v := by
  by_cases hv : 0 ≤ v
  · exact laneVal_of_nonneg hw hv h1
  · cases signed
    · simp only [laneLo, Bool.false_eq_true, if_false] at h0
      omega
    · exact laneVal_of_neg hw (by omega) (by simpa [laneLo] using h0)

/-- `Clamp`: the nearest value of the range, and whether the number lies outside it (41_lane_semantics.md R184). -/
theorem clampLane_spec {w : Nat} (hw : 0 < w) (signed : Bool) (v : Int) :
    laneVal w signed (clampLane w signed v).1 = nearest w signed v ∧
      (clampLane w signed v).2 = overflows w signed v ∧ (clampLane w signed v).1 < 2 ^ w := by
  have hr : laneLo w signed ≤ laneHi w signed := by
    have := two_pow_pred hw
    have hpos : (0 : Int) < 2 ^ (w - 1) := by positivity
    cases signed <;> simp [laneLo, laneHi] 
    all_goals omega
  have hlo : (if signed = true then -2 ^ (w - 1) else 0 : Int) = laneLo w signed := rfl
  have hhi : (if signed = true then 2 ^ (w - 1) - 1 else 2 ^ w - 1 : Int) = laneHi w signed := rfl
  simp only [clampLane, hlo, hhi]
  unfold nearest overflows
  split
  · refine ⟨?_, by simp; omega, wrapLane_lt _ _⟩
    rw [laneVal_wrapLane hw hr le_rfl]
    omega
  · split
    · refine ⟨?_, by simp; omega, wrapLane_lt _ _⟩
      rw [laneVal_wrapLane hw le_rfl hr]
      omega
    · refine ⟨?_, by simp; omega, wrapLane_lt _ _⟩
      rw [laneVal_wrapLane hw (by omega) (by omega)]
      omega

end Sys2Proof.Machine
end

