-- ==== Sys2Proof/Laws/W64.lean ====
section
/-! SUPPORT. What the shapes of a W64 instruction do: results and flags at the width `sf` selects, branches, loads and
stores. -/

namespace Sys2Proof.Machine

/-! ### Results at the width `sf` selects -/

theorem atWidth_eq {sf : Bool} {op : (w : Nat) → (DWord → BitVec w) → BitVec w} {v : DWord}
    (h1 : sf = true → op 64 id = v) (h2 : sf = false → op 32 (BitVec.setWidth 32) = v.setWidth 32) :
    atWidth sf op = atW sf v := by
  cases sf <;> simp_all [atWidth, atW]

theorem atWidth_ofInt {sf : Bool} {op : (w : Nat) → (DWord → BitVec w) → BitVec w} {v : Int}
    (h1 : sf = true → op 64 id = BitVec.ofInt 64 v)
    (h2 : sf = false → op 32 (BitVec.setWidth 32) = BitVec.ofInt 32 v) : atWidth sf op = ofIntW sf v := by
  cases sf
  · simp only [atWidth, h2, ofIntW, widthOf, Bool.false_eq_true, if_false]
    apply BitVec.eq_of_toNat_eq
    simp [BitVec.toNat_ofInt]
    omega
  · simp only [atWidth, h1, ofIntW, widthOf, if_true]
    apply BitVec.eq_of_toNat_eq
    simp [BitVec.toNat_ofInt]

theorem setWidth_add_32 (x y : DWord) : (x + y).setWidth 32 = x.setWidth 32 + y.setWidth 32 := by
  apply BitVec.eq_of_toNat_eq
  simp

theorem setWidth_sub_32 (x y : DWord) : (x - y).setWidth 32 = x.setWidth 32 - y.setWidth 32 := by
  apply BitVec.eq_of_toNat_eq
  simp
  omega

theorem sumAt_add {sf : Bool} (f : Flags) {x y : DWord} {op : (w : Nat) → (DWord → BitVec w) → Sum w}
    (h1 : sf = true → op 64 id = addWithCarry x y false)
    (h2 : sf = false → op 32 (BitVec.setWidth 32) = addWithCarry (x.setWidth 32) (y.setWidth 32) false) :
    sumAt sf f op = (atW sf (x + y), sumFlagsW sf f x y) := by
  cases sf
  · simp only [sumAt, atW, sumFlagsW, h2, Bool.false_eq_true, if_false, setWidth_add_32]
    rw [arithmetic_sum (show 0 < 32 by omega), addWithCarry_res, add_eq_sumBits]
    rfl
  · simp only [sumAt, atW, sumFlagsW, h1, if_true, add_eq_sumBits]
    rw [arithmetic_sum (show 0 < 64 by omega), addWithCarry_res]
    rfl

theorem sumAt_sub {sf : Bool} (f : Flags) {x y : DWord} {op : (w : Nat) → (DWord → BitVec w) → Sum w}
    (h1 : sf = true → op 64 id = addWithCarry x (~~~y) true)
    (h2 : sf = false → op 32 (BitVec.setWidth 32) = addWithCarry (x.setWidth 32) (~~~(y.setWidth 32)) true) :
    sumAt sf f op = (atW sf (x - y), diffFlagsW sf f x y) := by
  cases sf
  · simp only [sumAt, atW, diffFlagsW, h2, Bool.false_eq_true, if_false, setWidth_sub_32]
    rw [arithmetic_diff (show 0 < 32 by omega), addWithCarry_not_res, sub_eq_diffBits]
    rfl
  · simp only [sumAt, atW, diffFlagsW, h1, if_true, sub_eq_diffBits]
    rw [arithmetic_diff (show 0 < 64 by omega), addWithCarry_not_res]
    rfl

theorem logicalAt_eq {sf : Bool} (f : Flags) {v : DWord} {op : (w : Nat) → (DWord → BitVec w) → BitVec w}
    (h1 : sf = true → op 64 id = v) (h2 : sf = false → op 32 (BitVec.setWidth 32) = v.setWidth 32) :
    logicalAt sf f op = (atW sf v, bitFlagsW sf f v) := by
  cases sf
  · simp only [logicalAt, atW, bitFlagsW, h2, Bool.false_eq_true, if_false, Flags.arithmetic, Flags.setNZ, widthOf,
      Prod.mk.injEq, true_and, Flags.mk.injEq, and_true]
    refine ⟨by simp [BitVec.msb_eq_getLsbD_last], ?_⟩
    rw [Bool.beq_eq_decide_eq]
    congr 1
    rw [← BitVec.toNat_inj]
    simp
  · simp only [logicalAt, atW, bitFlagsW, h1, if_true, Flags.arithmetic, Flags.setNZ, widthOf, Prod.mk.injEq, true_and,
      Flags.mk.injEq, and_true]
    refine ⟨by simp [BitVec.msb_eq_getLsbD_last], ?_⟩
    rw [Bool.beq_eq_decide_eq]
    congr 1
    rw [← BitVec.toNat_inj]
    simp
    omega

/-! ### The shifted operand -/

theorem setWidth_ushiftRight_32 (u : Word) (n : Nat) : (u.setWidth 64 >>> n).setWidth 32 = u >>> n := by
  apply BitVec.eq_of_toNat_eq
  have h1 := Nat.shiftRight_le u.toNat n
  have h2 := u.isLt
  simp only [BitVec.toNat_setWidth, BitVec.toNat_ushiftRight]
  rw [Nat.mod_eq_of_lt (a := u.toNat) (by omega), Nat.mod_eq_of_lt]
  omega

theorem shiftW_64 (k : ShiftKind) (v : DWord) {n : Nat} (hn : n < 64) : shiftW k v n = shiftedW true k v n := by
  rw [shiftW_eq k v hn]
  cases k <;> rfl

theorem shiftW_32 (k : ShiftKind) (v : DWord) {n : Nat} (hn : n < 32) :
    shiftW k (v.setWidth 32) n = (shiftedW false k v n).setWidth 32 := by
  rw [shiftW_eq k _ hn]
  cases k <;> simp [shiftedW, setWidth_ushiftRight_32]

theorem shiftAmountOk_lt {sf : Bool} {n : BitVec 6} (h : shiftAmountOk sf n = true) : n.toNat < widthOf sf := by
  cases sf <;> simp [shiftAmountOk, widthOf] at * <;> omega

/-! ### Branches -/

theorem isZeroAt_iff (sf : Bool) (v : DWord) : isZeroAt sf v = true ↔ intW sf false v = 0 := by
  cases sf <;> simp only [isZeroAt, intW, beq_iff_eq, if_true, if_false, Bool.false_eq_true, ← BitVec.toNat_inj] <;>
    simp
  omega

theorem w64Relative_eq {s : State} {b : Bool} {p : Prop} [Decidable p] (h : b = true ↔ p) {n : Nat} (v : BitVec n) :
    w64Relative b (v.signExtend 64) s =
      .next (if p then { s with pc := BitVec.ofInt 64 (s.pc.toNat + 4 * v.toInt) } else s.nextW) := by
  simp only [w64Relative, signExtend_shiftLeft, add_ofInt, h]
  rw [mul_comm]
  rfl

/-! ### Loads and stores -/

theorem w64Load_ok {s : State} {k : Nat} {ext : Nat → DWord} {f : W64.LS}
    (hr : s.canRead64 (w64Addr k f s).address (2 ^ k)) :
    w64Load k ext f s = .next (((s.writeBackX f.rn (w64Addr k f s).newBase).setX f.rt
      (ext (s.wideAt (w64Addr k f s).address (2 ^ k)))).nextW) := by
  rw [w64Load, load_ok hr]
  rfl

theorem w64Store_ok {s : State} {k : Nat} (hk : k ≤ 3) {f : W64.LS} (hm : Memory.wf s.mem = true)
    (hw : s.canWrite64 (w64Addr k f s).address (2 ^ k)) :
    ∃ m, w64Store k f s = .next ((State.writeBackX { s with mem := m } f.rn (w64Addr k f s).newBase).nextW) ∧
      ReadsAs m (storedOver (Memory.get s.mem) s.cfg.endian 64 (w64Addr k f s).address.toNat (2 ^ k)
        (s.getX f.rt).toNat) := by
  rw [w64Store, store_ok hw]
  refine ⟨_, rfl, Memory.get_store hm s.cfg.endian (bits := 64) (by omega) (by omega) ?_ _⟩
  interval_cases k <;> simp

end Sys2Proof.Machine
end

