-- ==== Sys2Proof/Machine/Export.lean ====
section
/-! DEFINITION. The read-only export port (10_state.md R48): the state a snapshot presents for each operating width, and
the note layouts of 93_implementation_defined.md G30 (informative there). No instruction and no step uses it. -/

namespace Sys2Proof.Machine

/-- The 32-bit context: `r[0]` to `r[14]`, `pc` in the slot of register 15, `SR` (R48). -/
def State.exportNarrow (s : State) : List Word := s.r.toList ++ [s.pc.setWidth 32, s.sr]

/-- The W64 context: `x[0]` to `x[30]`, `sp`, `pc`, `PSTATE` (R48). -/
def State.exportWide (s : State) : List DWord := s.x.toList ++ [s.sp, s.pc, s.pstate]

/-- Fields of `n` bytes each in the byte order `ENDIAN` (R48). -/
def fieldBytes (e : Endian) (n : Nat) (vs : List Nat) : List Byte := vs.flatMap fun v => wordBytes e v n

/-- Padding. -/
def zeroBytes (n : Nat) : List Byte := List.replicate n 0

/-- The 148-byte note of the 32-bit context; `pid` and `valid` are the environment's (G30). -/
def State.noteNarrow (s : State) (pid valid : Word) : List Byte :=
  let e := s.cfg.endian
  zeroBytes 24 ++ fieldBytes e 4 [pid.toNat] ++ zeroBytes 44 ++ fieldBytes e 4 (s.exportNarrow.map BitVec.toNat ++ [0])
    ++ fieldBytes e 4 [valid.toNat]

/-- The 392-byte note of the W64 context (G30). -/
def State.noteWide (s : State) (pid valid : Word) : List Byte :=
  let e := s.cfg.endian
  zeroBytes 32 ++ fieldBytes e 4 [pid.toNat] ++ zeroBytes 76 ++ fieldBytes e 8 (s.exportWide.map BitVec.toNat)
    ++ fieldBytes e 4 [valid.toNat] ++ zeroBytes 4

end Sys2Proof.Machine
end

