-- ==== Sys2Proof/Tests/Slice0.lean ====
section
/-! SUPPORT. The model's own tests: the well-formedness checks, the spec's examples run for one step, and for every
statement with hypotheses a theorem whose concrete state and operands meet them. Expected results are the spec's: each
step test names the rule whose example it is. -/

open Sys2Proof Sys2Proof.Machine

namespace Sys2Proof.Tests

/-! ### Helpers -/

/-- The machine after reset. -/
def base : State := State.reset

/-- `n` bytes of `v` stored at `a`. -/
def stored (s : State) (a n v : Nat) : State := { s with mem := Memory.store s.mem .little 64 a n v }

/-- One step in mode `m` with the word `w` at address `a`. -/
def run (m : Mode) (a : DWord) (w : Nat) (s : State) : Host.Outcome State Fault Refusal :=
  step (stored { s with mode := m, pc := a } a.toNat m.instrBytes w)

/-- What `f` sees of the next state. -/
def after {α : Type} (o : Host.Outcome State Fault Refusal) (f : State → α) : Option α :=
  match o with
  | .next t => some (f t)
  | .fault _ => none
  | .refused _ => none

/-- The condition flags. -/
def nzcv (t : State) : Bool × Bool × Bool × Bool := (t.flags.n, t.flags.z, t.flags.c, t.flags.v)

/-- The vector unit enabled, with two source registers. -/
def vectors (a b : DWord) : State := { (base.setV 0 a).setV 1 b with vstat := { VecStatus.reset with en := true } }

/-! ### The examples of the spec, one step each -/

/-- R254. -/
theorem test_ands_rotated : after (run .f32 0x100 0xE21104FF (base.setR 1 0xF0F0F0F0))
    (fun t => (t.r[0], nzcv t)) = some (0xF0000000, (true, false, true, false)) := by decide

/-- R256. -/
theorem test_subs_borrow : after (run .f32 0x100 0xE0510002 ((base.setR 1 5).setR 2 7))
    (fun t => (t.r[0], nzcv t)) = some (0xFFFFFFFE, (true, false, false, false)) := by decide

/-- R257. -/
theorem test_rsbs : after (run .f32 0x100 0xE2710000 (base.setR 1 5))
    (fun t => (t.r[0], nzcv t)) = some (0xFFFFFFFB, (true, false, false, false)) := by decide

/-- R258. -/
theorem test_adds_overflow : after (run .f32 0x100 0xE2910001 (base.setR 1 0x7FFFFFFF))
    (fun t => (t.r[0], nzcv t)) = some (0x80000000, (true, false, false, true)) := by decide

/-- R258. -/
theorem test_add_pc : after (run .f32 0x100 0xE28F0008 base) (fun t => t.r[0]) = some 0x110 := by decide

/-- R259. -/
theorem test_adcs_carry_in :
    after (run .f32 0x100 0xE0B10002 { base.setR 1 0xFFFFFFFF with flags := { Flags.reset with c := true } })
    (fun t => (t.r[0], nzcv t)) = some (0, (false, true, true, false)) := by decide

/-- R260. -/
theorem test_sbcs : after (run .f32 0x100 0xE0D10002 ((base.setR 1 5).setR 2 5))
    (fun t => (t.r[0], nzcv t)) = some (0xFFFFFFFF, (true, false, false, false)) := by decide

/-- R261. -/
theorem test_rscs :
    after (run .f32 0x100 0xE0F10002 { (base.setR 1 1).setR 2 3 with flags := { Flags.reset with c := true } })
    (fun t => (t.r[0], nzcv t)) = some (2, (false, false, true, false)) := by decide

/-- R262. -/
theorem test_tst_rotated_carry :
    after (run .f32 0x100 0xE3110102 { base.setR 1 0x80000001 with flags := { Flags.reset with v := true } })
    (fun t => nzcv t) = some (true, false, true, true) := by decide

/-- R264. -/
theorem test_cmp_signed : after (run .f32 0x100 0xE1510002 ((base.setR 1 0x80000000).setR 2 1))
    (fun t => nzcv t) = some (false, false, true, true) := by decide

/-- R267. -/
theorem test_movs_rrx :
    after (run .f32 0x100 0xE1B00062 { base.setR 2 0x80000001 with flags := { Flags.reset with c := true } })
    (fun t => (t.r[0], nzcv t)) = some (0xC0000000, (true, false, true, false)) := by decide

/-- R267. -/
theorem test_movs_lsl_32 : after (run .f32 0x100 0xE1B00312 ((base.setR 2 0x80000001).setR 3 32))
    (fun t => (t.r[0], nzcv t)) = some (0, (false, true, true, false)) := by decide

/-- R273. -/
theorem test_umulls : after (run .f32 0x100 0xE0910392 ((base.setR 2 0xFFFFFFFF).setR 3 0xFFFFFFFF))
    (fun t => (t.r[0], t.r[1], t.flags.n)) = some (1, 0xFFFFFFFE, true) := by decide

/-- R273. -/
theorem test_umull_same_destination : after (run .f32 0x100 0xE0844392 ((base.setR 2 3).setR 3 5))
    (fun t => t.r[4]) = some 0 := by decide

/-- R276. -/
theorem test_smlal : after (run .f32 0x100 0xE0E10392 (((base.setR 0 1).setR 2 0xFFFFFFFF).setR 3 1))
    (fun t => (t.r[0], t.r[1])) = some (0, 0) := by decide

/-- R283. -/
theorem test_qdadd : after (run .f32 0x100 0xE1420051 ((base.setR 1 1).setR 2 0x40000000))
    (fun t => (t.r[0], t.flags.q)) = some (0x7FFFFFFF, true) := by decide

/-- R284. -/
theorem test_qdsub : after (run .f32 0x100 0xE1620051 (base.setR 2 0xC0000000))
    (fun t => (t.r[0], t.flags.q)) = some (0x7FFFFFFF, true) := by decide

/-- R289. -/
theorem test_mrs :
    after (run .f32 0x100 0xE10F0000 { base with flags := { Flags.reset with n := true, c := true, q := true } })
    (fun t => t.r[0]) = some 0xA8000013 := by decide

/-- R290. -/
theorem test_msr_immediate : after (run .f32 0x100 0xE328F2F8 { base with flags := { Flags.reset with q := true } })
    (fun t => (nzcv t, t.flags.q)) = some ((true, false, false, false), false) := by decide

/-- R302. -/
theorem test_ldr_negative_scaled :
    after (run .f32 0x100 0xE7110102 (stored ((base.setR 1 0x100C).setR 2 3) 0x1000 4 0x11223344))
    (fun t => t.r[0]) = some 0x11223344 := by decide

/-- R302. -/
theorem test_ldr_post_indexed : after (run .f32 0x100 0xE4910004 (stored (base.setR 1 0x1000) 0x1000 4 0x11223344))
    (fun t => (t.r[0], t.r[1])) = some (0x11223344, 0x1004) := by decide

/-- R303. -/
theorem test_str_base_is_source : after (run .f32 0x100 0xE4811004 (base.setR 1 0x1000))
    (fun t => (t.narrowAt 0x1000 4, t.r[1])) = some (0x1000, 0x1004) := by decide

/-- R303. -/
theorem test_str_pc : after (run .f32 0x200 0xE581F000 (base.setR 1 0x1000))
    (fun t => t.narrowAt 0x1000 4) = some 0x208 := by decide

/-- R309. -/
theorem test_ldrsh : after (run .f32 0x100 0xE1D100F2 (stored (base.setR 1 0x1000) 0x1000 4 0x8899AABB))
    (fun t => t.r[0]) = some 0xFFFF8899 := by decide

/-- R306. -/
theorem test_ldrh_misaligned : after (run .f32 0x100 0xE1D100B0 (base.setR 1 0x1001))
    (fun t => (t.raised, t.pc)) = some (some ⟨.dataAbort, 0x100, some ⟨0x1001, false, 2⟩⟩, 0x100) := by decide

/-- R310. -/
theorem test_ldrd_odd : after (run .f32 0x100 0xE1C130D8 (base.setR 1 0x1000))
    (fun t => t.raised) = some (some ⟨.undef, 0x100, none⟩) := by decide

/-- R311. -/
theorem test_strd_post_indexed :
    after (run .f32 0x100 0xE0C140F8 (((base.setR 1 0x1000).setR 4 0xAAAAAAAA).setR 5 0xBBBBBBBB))
    (fun t => (t.narrowAt 0x1000 4, t.narrowAt 0x1004 4, t.r[1])) = some (0xAAAAAAAA, 0xBBBBBBBB, 0x1008) := by decide

/-- R315. -/
theorem test_strbt : after (run .f32 0x100 0xE4E10001 ((base.setR 0 0x1FF).setR 1 0x1000))
    (fun t => (t.narrowAt 0x1000 4, t.r[1])) = some (0xFF, 0x1001) := by decide

/-- R321. -/
theorem test_ldm_base_in_list :
    after (run .f32 0x100 0xE8B00003 (stored (stored (base.setR 0 0x2000) 0x2000 4 0xAAAA0000) 0x2004 4 0xBBBB0001))
    (fun t => (t.r[0], t.r[1])) = some (0xAAAA0000, 0xBBBB0001) := by decide

/-- R321. -/
theorem test_ldm_pc_exchanges :
    after (run .f32 0x100 0xE8BD8030 (stored (stored (stored (base.setR 13 0x8000) 0x8000 4 1) 0x8004 4 2) 0x8008 4 0x9001))
    (fun t => (t.r[4], t.r[5], t.r[13], t.pc, t.mode)) = some (1, 2, 0x800C, 0x9000, .c16) := by decide

/-- R322. -/
theorem test_stmdb : after (run .f32 0x100 0xE92D4030 ((((base.setR 13 0x8000).setR 4 4).setR 5 5).setR 14 0xE))
    (fun t => (t.narrowAt 0x7FF4 4, t.narrowAt 0x7FFC 4, t.r[13])) = some (4, 0xE, 0x7FF4) := by decide

/-- R331. -/
theorem test_swpb :
    after (run .f32 0x100 0xE1410092 (stored ((base.setR 1 0x1001).setR 2 0x5555AAAA) 0x1000 4 0x12345678))
    (fun t => (t.r[0], t.narrowAt 0x1000 4)) = some (0x56, 0x1234AA78) := by decide

/-- R342. -/
theorem test_b_wraps : after (run .f32 0x100 0xEA800000 base) (fun t => t.pc) = some 0xFE000108 := by decide

/-- R343. -/
theorem test_bl : after (run .f32 0x100 0xEB00003E base) (fun t => (t.r[14], t.pc)) = some (0x104, 0x200) := by decide

/-- R344. -/
theorem test_bx_to_c16 : after (run .f32 0x100 0xE12FFF11 (base.setR 1 0x2001))
    (fun t => (t.pc, t.mode)) = some (0x2000, .c16) := by decide

/-- R345. -/
theorem test_blx_immediate : after (run .f32 0x100 0xFB00003E base)
    (fun t => (t.r[14], t.pc, t.mode)) = some (0x104, 0x202, .c16) := by decide

/-- R346. -/
theorem test_blx_link_register : after (run .f32 0x100 0xE12FFF3E (base.setR 14 0x3000))
    (fun t => (t.r[14], t.pc, t.mode)) = some (0x104, 0x3000, .f32) := by decide

/-- R360. -/
theorem test_sysr_without_cell : after (run .f32 0x100 0xEE110F10 base)
    (fun t => t.raised) = some (some ⟨.undef, 0x100, none⟩) := by decide

/-- R651. -/
theorem test_unclassified_word : after (run .f32 0x100 0xE7F000F0 base)
    (fun t => (t.raised, t.pc)) = some (some ⟨.undef, 0x100, none⟩, 0x100) := by decide

/-- R651. -/
theorem test_unclassified_word_skipped : after (run .f32 0x100 0x07F000F0 base)
    (fun t => (t.raised, t.pc)) = some (none, 0x104) := by decide

/-- R390. -/
theorem test_vadd : after (run .f32 0x100 0xEE002A21 (vectors 0xFFFF000180007FFF 0x0001FFFF80000001))
    (fun t => t.vec[2]) = some 0x0000000000008000 := by decide

/-- R393. -/
theorem test_vqsub : after (run .f32 0x100 0xEE302AA1 (vectors 0x0001000500000003 0x0002000400010003))
    (fun t => (t.vec[2], t.vstat.sat, t.flags.q)) = some (0x0000000100000000, 0x0A, true) := by decide

/-- R394. -/
theorem test_vshr : after (run .f32 0x100 0xEE402A21 (vectors 0x8000800080004001 0x00040010001100FF))
    (fun t => t.vec[2]) = some 0xF800FFFFFFFF8002 := by decide

/-- R395. -/
theorem test_vrshr : after (run .f32 0x100 0xEE502AA1 (vectors 0x80088000FFFF0003 0x0004001000110001))
    (fun t => t.vec[2]) = some 0x0801000100000002 := by decide

/-- R396. -/
theorem test_vmullb : after (run .f32 0x100 0xEE602A21 (vectors 0x000000008000FFFF 0x0000000080000002))
    (fun t => t.vec[2]) = some 0x40000000FFFFFFFE := by decide

/-- R398. -/
theorem test_vdot : after (run .f32 0x100 0xEE802A21 (vectors 0x8000800000030002 0x8000800000050004))
    (fun t => t.vec[2]) = some 0x8000000000000017 := by decide

/-- R401. -/
theorem test_vrmulh : after (run .f32 0x100 0xEEB02A21 (vectors 0x4000C0007FFF0001 0x400040007FFF8000))
    (fun t => t.vec[2]) = some 0x1000F0003FFF0000 := by decide

/-- R403. -/
theorem test_vqpack : after (run .f32 0x100 0xEED02A21 (vectors 0x1234007F0080FF80 0x00FF010000010002))
    (fun t => (t.vec[2], t.vstat.sat)) = some (0x7F7F01027F7F7F80, 0xCA) := by decide

/-- R411. -/
theorem test_vzipt : after (run .f32 0x100 0xEE102B21 (vectors 0xA3A3A2A2A1A1A0A0 0xB3B3B2B2B1B1B0B0))
    (fun t => t.vec[2]) = some 0xB3B3A3A3B2B2A2A2 := by decide

/-- R421. -/
theorem test_vcgt_unsigned : after (run .f32 0x100 0xEE602B81 (vectors 0x7F80FF0001020304 0x807F00FF01010405))
    (fun t => (t.vec[2], t.vstat.pred)) = some (0x00FFFF0000FF0000, 0x64) := by decide

/-- R426. -/
theorem test_vfcge : after (run .f32 0x100 0xEE902B41 (vectors 0x7FC000003F800000 0x400000003F800000))
    (fun t => (t.vec[2], t.vstat.pred, t.vstat.ioc)) = some (0x00000000FFFFFFFF, 1, true) := by decide

/-- R431. -/
theorem test_vfcmpe_subnormal : after (run .f32 0x100 0xEEE00B61 (vectors 1 0))
    (fun t => (nzcv t, t.vstat.ioc)) = some ((false, false, true, false), false) := by decide

/-- R435. -/
theorem test_vmsr_vfsr : after (run .f32 0x100 0xEE010A10 ((vectors 0 0).setR 0 0xFFFFFFFF))
    (fun t => (t.vstat.ioc, t.vstat.len, t.vstat.stride)) = some (true, 7, 3) := by decide

/-- R436. -/
theorem test_vldr :
    after (run .f32 0x100 0xED914A02 (stored (stored ((vectors 0 0).setR 1 0x1000) 0x1008 4 0x55667788) 0x100C 4 0x11223344))
    (fun t => (t.vec[4], t.r[1])) = some (0x1122334455667788, 0x1000) := by decide

/-- R446. -/
theorem test_lsls_zero :
    after (run .c16 0x100 0x0008 { base.setR 1 0x80000000 with flags := { Flags.reset with c := true } })
    (fun t => (t.r[0], nzcv t)) = some (0x80000000, (true, false, true, false)) := by decide

/-- R448. -/
theorem test_asrs_32 : after (run .c16 0x100 0x1008 (base.setR 1 0x80000000))
    (fun t => (t.r[0], nzcv t)) = some (0xFFFFFFFF, (true, false, true, false)) := by decide

/-- R460. -/
theorem test_lsrs_register_33 :
    after (run .c16 0x100 0x40C8 { (base.setR 0 0xFFFFFFFF).setR 1 33 with flags := { Flags.reset with c := true } })
    (fun t => (t.r[0], nzcv t)) = some (0, (false, true, false, false)) := by decide

/-- R464. -/
theorem test_rors_32 : after (run .c16 0x100 0x41C8 ((base.setR 0 0x80000000).setR 1 32))
    (fun t => (t.r[0], nzcv t)) = some (0x80000000, (true, false, true, false)) := by decide

/-- R466. -/
theorem test_negs_minimum : after (run .c16 0x100 0x4248 (base.setR 1 0x80000000))
    (fun t => (t.r[0], nzcv t)) = some (0x80000000, (true, false, false, true)) := by decide

/-- R473. -/
theorem test_add_high : after (run .c16 0x100 0x4488 ((base.setR 8 0xFFFFFFFF).setR 1 2))
    (fun t => (t.r[8], t.pc)) = some (1, 0x102) := by decide

/-- R476. -/
theorem test_bx_pc : after (run .c16 0x102 0x4778 base) (fun t => (t.pc, t.mode)) = some (0x104, .f32) := by decide

/-- R478. -/
theorem test_ldr_literal : after (run .c16 0x102 0x4801 (stored base 0x108 4 0xCAFEF00D))
    (fun t => (t.r[0], t.pc)) = some (0xCAFEF00D, 0x104) := by decide

/-- R482. -/
theorem test_ldrsb_register : after (run .c16 0x100 0x5688 (stored ((base.setR 1 0x1000).setR 2 1) 0x1000 4 0x8000))
    (fun t => t.r[0]) = some 0xFFFFFF80 := by decide

/-- R491. -/
theorem test_strh_immediate : after (run .c16 0x100 0x87C8 ((base.setR 0 0xABCD1234).setR 1 0x1000))
    (fun t => t.narrowAt 0x103C 4) = some 0x12340000 := by decide

/-- R506. -/
theorem test_stmia_base_in_list : after (run .c16 0x100 0xC003 ((base.setR 0 0x1000).setR 1 0x11))
    (fun t => (t.narrowAt 0x1000 4, t.narrowAt 0x1004 4, t.r[0])) = some (0x1000, 0x11, 0x1008) := by decide

/-- R498. -/
theorem test_bl_suffix : after (run .c16 0x102 0xF810 (base.setR 14 0x1104))
    (fun t => (t.pc, t.r[14])) = some (0x1124, 0x105) := by decide

/-- R509. -/
theorem test_it : after (run .c16 0x100 0xBF1A base) (fun t => (t.itstate, t.pc)) = some (0x1A, 0x102) := by decide

/-- R509. -/
theorem test_adds_inside_group : after (run .c16 0x100 0x3102 { base.setR 1 0xFFFFFFFE with itstate := 0x14 })
    (fun t => (t.r[1], t.flags.z, t.itstate)) = some (0, false, 0x08) := by decide

/-- R509. -/
theorem test_slot_skipped : after (run .c16 0x100 0x2203 { base.setR 2 9 with itstate := 0x08 })
    (fun t => (t.r[2], t.itstate, t.pc)) = some (9, 0, 0x102) := by decide

/-- R517. -/
theorem test_adds_w : after (run .w64 0x100 0x31000420 (base.setX 1 0xFFFFFFFF))
    (fun t => (t.x[0], nzcv t)) = some (0, (false, true, true, false)) := by decide

/-- R518. -/
theorem test_sub_sp : after (run .w64 0x100 0xD10083FF { base with sp := 0x8000 })
    (fun t => t.sp) = some 0x7FE0 := by decide

/-- R520. -/
theorem test_add_asr_w : after (run .w64 0x100 0x0B827C20 ((base.setX 1 1).setX 2 0x80000000))
    (fun t => t.x[0]) = some 0 := by decide

/-- R528. -/
theorem test_eor_ror_w : after (run .w64 0x100 0x4AC21020 (base.setX 2 0xF))
    (fun t => t.x[0]) = some 0x00000000F0000000 := by decide

/-- R530. -/
theorem test_ands_clears_c_v :
    after (run .w64 0x100 0xEA020020 { (base.setX 1 0x8000000000000000).setX 2 0xFFFFFFFFFFFFFFFF with flags := { Flags.reset with c := true, v := true } })
    (fun t => (t.x[0], nzcv t)) = some (0x8000000000000000, (true, false, false, false)) := by decide

/-- R534. -/
theorem test_movk : after (run .w64 0x100 0xF2B7DDE0 (base.setX 0 0x1111222233334444))
    (fun t => t.x[0]) = some 0x11112222BEEF4444 := by decide

/-- R536. -/
theorem test_adrp : after (run .w64 0x2ABC 0xF0FFFFE0 base) (fun t => t.x[0]) = some 0x1000 := by decide

/-- R539. -/
theorem test_bcond_always : after (run .w64 0x1000 0x54FFFFCF base) (fun t => t.pc) = some 0xFF8 := by decide

/-- R540. -/
theorem test_cbz_w : after (run .w64 0x1000 0x34000083 (base.setX 3 0x100000000))
    (fun t => t.pc) = some 0x1010 := by decide

/-- R543. -/
theorem test_tbnz_63 : after (run .w64 0x1000 0xB7FFFFE3 (base.setX 3 0x8000000000000000))
    (fun t => t.pc) = some 0xFFC := by decide

/-- R545. -/
theorem test_blr_x30 : after (run .w64 0x1000 0xD63F03C0 (base.setX 30 0x4000))
    (fun t => (t.pc, t.x[30])) = some (0x4000, 0x1004) := by decide

/-- R548. -/
theorem test_csinc_w : after (run .w64 0x100 0x1A820420 (base.setX 2 0xFFFFFFFF))
    (fun t => t.x[0]) = some 0 := by decide

/-- R552. -/
theorem test_sdiv_toward_zero : after (run .w64 0x100 0x9AC20C20 ((base.setX 1 0xFFFFFFFFFFFFFFF9).setX 2 2))
    (fun t => t.x[0]) = some 0xFFFFFFFFFFFFFFFD := by decide

/-- R552. -/
theorem test_sdiv_by_zero : after (run .w64 0x100 0x9AC20C20 ((base.setX 0 5).setX 1 7))
    (fun t => t.x[0]) = some 0 := by decide

/-- R563. -/
theorem test_umsubl : after (run .w64 0x100 0x9BA28C20 (((base.setX 1 0xFFFFFFFF).setX 2 2).setX 3 10))
    (fun t => t.x[0]) = some 0xFFFFFFFE0000000C := by decide

/-- R561. -/
theorem test_smulh : after (run .w64 0x100 0x9B420020 ((base.setX 1 0x8000000000000000).setX 2 2))
    (fun t => t.x[0]) = some 0xFFFFFFFFFFFFFFFF := by decide

/-- R575. -/
theorem test_ldr_sxtw :
    after (run .w64 0x100 0xB862D820 (stored ((base.setX 1 0x2008).setX 2 0xFFFFFFFE) 0x2000 8 0x8877665544332211))
    (fun t => t.x[0]) = some 0x44332211 := by decide

/-- R577. -/
theorem test_str_base_is_source_w64 : after (run .w64 0x100 0xF8008421 (base.setX 1 0x2000))
    (fun t => (t.wideAt 0x2000 8, t.x[1])) = some (0x2000, 0x2008) := by decide

/-- R578. -/
theorem test_ldr_base_is_destination :
    after (run .w64 0x100 0xF8410421 (stored (base.setX 1 0x2000) 0x2000 8 0x8877665544332211))
    (fun t => t.x[1]) = some 0x8877665544332211 := by decide

/-- R581. -/
theorem test_ldp_post_indexed :
    after (run .w64 0x100 0xA8C10BE0 (stored (stored ({ base with sp := 0x2000 }) 0x2000 8 0x8877665544332211) 0x2008 8 0xFFEEDDCCBBAA9980))
    (fun t => (t.x[0], t.x[2], t.sp)) = some (0x8877665544332211, 0xFFEEDDCCBBAA9980, 0x2010) := by decide

/-- R590. -/
theorem test_mrs_nzcv :
    after (run .w64 0x100 0xD53B4200 { base.setX 0 0xFFFFFFFFFFFFFFFF with flags := { Flags.reset with n := true, c := true } })
    (fun t => t.x[0]) = some 0x00000000A0000000 := by decide

/-- R591. -/
theorem test_msr_nzcv :
    after (run .w64 0x100 0xD51B4200 { base.setX 0 0xFFFFFFFF9FFFFFFF with flags := { Flags.reset with q := true } })
    (fun t => (nzcv t, t.flags.q)) = some ((true, false, false, true), true) := by decide
/-! ### Blocks (49_block_control.md R610, R613) and rulings on multiples and hints -/

/-- Under `SINGLE_STEP`. -/
def stepping : State := { base with env := { base.env with singleStep := true } }

/-- Rows 3, 6, 7 and 8 of R613. -/
theorem test_block_exits :
    after (run .f32 0x100 0xE12FFF1E base) (·.lastExit) = some (some ⟨.branch, .generic, 0x100, 1, 4⟩) ∧
    after (run .f32 0x100 0xE3A00001 stepping) (·.lastExit) = some (some ⟨.singleStep, .generic, 0x100, 1, 4⟩) ∧
    after (run .f32 0x100 0x13A0F000 { base with flags := { Flags.reset with z := true } }) (·.lastExit)
      = some (some ⟨.condBranch, .generic, 0x100, 1, 4⟩) ∧
    after (run .f32 0x100 0xEE010A10 { base with vstat := { VecStatus.reset with en := true } }) (·.lastExit)
      = some (some ⟨.contextWrite, .generic, 0x100, 1, 4⟩) := by decide

/-- R610: a direct branch links its block, but not under `SINGLE_STEP`. -/
theorem test_branch_under_single_step :
    after (run .f32 0x100 0xEA000002 base) (·.lastExit) = some (some ⟨.branch, .directLink 0x110, 0x100, 1, 4⟩) ∧
    after (run .f32 0x100 0xEA000002 stepping) (·.lastExit) = some (some ⟨.branch, .generic, 0x100, 1, 4⟩) := by decide

/-- The instruction after the last word of the 32-bit space is at address 0 (10_state.md R26, R29). -/
theorem test_skip_target_wraps :
    (State.enterGuard (State.openBlock { base with pc := 0xFFFFFFFC }) ⟨4, some true, .none, false, false⟩).ctx.bind
      (·.skipTarget) = some 0 := by decide

/-- Decision D22: `LDMIA r1!, {r0}^` and `STMIA r1!, {r0}^` are undefined in privileged mode too. -/
theorem test_user_bank_writeback_undefined :
    after (run .f32 0x100 0xE8F10001 base) (fun t => (t.raised, t.r[1])) = some (some ⟨.undef, 0x100, none⟩, 0) ∧
    after (run .f32 0x100 0xE8E10001 base) (fun t => (t.raised, t.r[1])) = some (some ⟨.undef, 0x100, none⟩, 0) := by
  decide

/-- R131, D49, P18: the absent hints are undefined, but for a failed condition (`0x0320F003`, `EQ`); `0xE320F000` does
nothing. -/
theorem test_absent_hints_undefined :
    (∀ w ∈ [0xE320F001, 0xE320F002, 0xE320F003, 0xE320F004],
      after (run .f32 0x100 w base) (fun t => (t.raised, t.pc)) = some (some ⟨.undef, 0x100, none⟩, 0x100)) ∧
    (∀ w ∈ [0x0320F003, 0xE320F000],
      after (run .f32 0x100 w base) (fun t => (t.raised, t.pc)) = some (none, 0x104)) := by decide

/-! ### Decoding: reserved encodings, and an ill-formed term for each check -/

/-- Reserved patterns are refused by every decoder (30_encoding.md R103, R130, R132; 47_c16_compact.md R495, R499, R508;
48_w64.md R520, R532, R544). -/
theorem test_reserved_encodings :
    (∀ w ∈ [0xE7F000F0, 0xEF000000, 0xE1200070, 0xEE000E10, 0xF57FF000, 0xE0600091],
      (decodeWord .f32 w).toOption = none) ∧
    (∀ w ∈ [0xDE00, 0xDF00, 0xE801, 0xBF10, 0xBE00, 0xB100], (decodeWord .c16 w).toOption = none) ∧
    (∀ w ∈ [0x0B200000, 0x12C00000, 0xD61F0001, 0xD503203F, 0xD53B4220, 0x54000010],
      (decodeWord .w64 w).toOption = none) := by decide

theorem test_wf_accepts : Instr.wf (.f32And ⟨14, true, 1, 0, .reg 0 .lsl 2⟩) = true ∧
    Instr.wf (.f32LdrLsi ⟨0, false, true, false, 1, 0, 4⟩) = true ∧ Instr.wf (.c16ItIt ⟨15, 8⟩) = true ∧
    Instr.wf (.w64AndLogr ⟨false, .ror, 7, 31, 5, 12⟩) = true := by decide

/-- `cond = 1111` is refused in every F32 format that has the field. -/
theorem test_wf_refuses_condition :
    [Instr.f32And ⟨15, true, 1, 0, .reg 0 .lsl 2⟩, .f32Tst ⟨15, 1, 0, .reg 0 .lsl 2⟩, .f32MulMul ⟨15, false, 0, 2, 1⟩,
      .f32MlaMul ⟨15, false, 0, 3, 2, 1⟩, .f32UmullMull ⟨15, false, 1, 0, 3, 2⟩, .f32SwpSwp ⟨15, 1, 0, 2⟩,
      .f32QaddSat ⟨15, 2, 0, 1⟩, .f32MrsMisc ⟨15, 0⟩, .f32MsrMisc ⟨15, 8, 1⟩, .f32MsrMsri ⟨15, 8, 0, 0⟩,
      .f32BxMisc ⟨15, 1⟩, .f32LdrhLshi ⟨15, true, true, false, 1, 0, 2⟩, .f32LdrhLshr ⟨15, true, true, false, 1, 0, 2⟩,
      .f32LdrLsi ⟨15, true, true, false, 1, 0, 4⟩, .f32LdrLsr ⟨15, true, true, false, 1, 0, 0, .lsl, 2⟩,
      .f32LdrtLsi ⟨15, true, 1, 0, 4⟩, .f32LdrtLsr ⟨15, true, 1, 0, 0, .lsl, 2⟩,
      .f32LdmLsm ⟨15, false, true, false, false, 1, 1⟩, .f32BBr ⟨15, 0⟩, .f32VaddVop ⟨15, 0, 2, false, 0, 1⟩,
      .f32VmovtvVxfer ⟨15, 1, 0, 3⟩, .f32VmrsVctl ⟨15, 0, 0⟩, .f32VldrVls ⟨15, true, true, false, 1, 4, 2⟩,
      .f32SysrSys ⟨15, 0, 1, 0, 0, 0⟩].all (fun i => !i.wf) = true := by decide

/-- `P = 0` with `W = 1` is the space of the user-access forms. -/
theorem test_wf_refuses_user_access_index :
    [Instr.f32LdrLsi ⟨14, false, true, true, 1, 0, 4⟩, .f32StrLsr ⟨14, false, true, true, 1, 0, 0, .lsl, 2⟩,
      .f32LdrhLshi ⟨14, false, true, true, 1, 0, 2⟩, .f32StrhLshr ⟨14, false, true, true, 1, 0, 2⟩].all
      (fun i => !i.wf) = true := by decide

/-- `P = 0` with `W = 0` of `VLDR` is the space of the transfers. -/
theorem test_wf_refuses_vector_index : Instr.wf (.f32VldrVls ⟨14, false, true, false, 1, 4, 2⟩) = false := by decide

theorem test_wf_refuses_empty_group : Instr.wf (.c16ItIt ⟨0, 0⟩) = false := by decide

theorem test_wf_refuses_branch_condition :
    Instr.wf (.c16BBc ⟨14, 0⟩) = false ∧ Instr.wf (.c16BBc ⟨15, 0⟩) = false := by decide

theorem test_wf_refuses_rotated_sum : Instr.wf (.w64AddAsr ⟨true, .ror, 2, 1, 1, 0⟩) = false := by decide

theorem test_wf_refuses_narrow_amount : Instr.wf (.w64AddAsr ⟨false, .lsl, 2, 32, 1, 0⟩) = false ∧
    Instr.wf (.w64AndLogr ⟨false, .lsl, 2, 32, 1, 0⟩) = false := by decide

theorem test_wf_refuses_narrow_halfword : Instr.wf (.w64MovzMovw ⟨false, 2, 1, 0⟩) = false := by decide

theorem test_wf_refuses_w64_addresses : Instr.wf (.w64Ldrx ⟨1, 0, .signed 8 2⟩) = false ∧
    Instr.wf (.w64Ldrx ⟨1, 0, .reg 2 1 false⟩) = false ∧ Instr.wf (.w64LdpLsp ⟨true, 0, 1, 2, 1, 0⟩) = false := by decide

/-! ### Witnesses: states -/

/-- F32, with a buffer address in `r1` and data around it. -/
def narrow : State := stored ((({ base with pc := 0x100 }).setR 1 0x1000).setR 2 5) 0x1000 4 0x8899AABB

/-- F32, the vector unit enabled. -/
def lanes : State := { narrow with vstat := { VecStatus.reset with en := true } }

/-- F32 in user mode. -/
def userMode : State := { narrow with priv := .user }

/-- C16, no group active. -/
def compact : State := { narrow with mode := .c16 }

/-- C16, in a slot whose condition (`NE`) passes and which is not the last. -/
def inSlot : State := { compact with itstate := 0x14 }

/-- C16, in the last slot, whose condition (`NE`) passes. -/
def lastSlot : State := { compact with itstate := 0x18 }

/-- C16, in a slot whose condition (`EQ`) fails. -/
def failedSlot : State := { compact with itstate := 0x08 }

/-- W64 after its reset. -/
def wide : State :=
  stored (State.setX { State.resetWith { Params.default with resetMode := .w64 } [] [] with pc := 0x100 } 1 0x2000)
    0x2000 8 0x8877665544332211

/-- F32 with one privileged-state register behind another key. -/
def withCells : State :=
  { narrow with sysRegs := [⟨0, 2, 0, 0, 7, true, true, 0xFF, 0⟩, ⟨0, 1, 0, 0, 9, true, true, 0xFF, 0⟩] }

/-! ### Witnesses: the machine -/

theorem witness_InvariantHoldsAtReset :
    ({ Params.default with resetMode := .w64, resetPc := 0xFFFFFFFFFFFFFFFC, pageSize := 4, maxBlockInsns := 1 }).wf = true ∧
    Memory.wf [(0, 1), (2 ^ 64 - 1, 255)] = true := by decide

/-- The last half-word of a page, inside a group, in an open block. -/
def pageEnd : State := State.openBlock { inSlot with pc := 0x3FE }

theorem witness_InvariantKeptByStep : pageEnd.Inv ∧ ∃ t, step pageEnd = .next t := by
  refine ⟨⟨by decide, by decide, by decide, by decide, by decide, by decide, by decide, ?_⟩, ⟨_, rfl⟩⟩
  intro c h
  obtain rfl := Option.some.inj h
  exact ⟨rfl, rfl, rfl, rfl, rfl, rfl, rfl, rfl, rfl, rfl, by decide, by decide, by decide⟩

/-- The last word of the wide space: the next one is at address 0. -/
def topOfSpace : State := stored { wide with pc := 0xFFFFFFFFFFFFFFFC } 0xFFFFFFFFFFFFFFFC 4 0xD503201F

theorem witness_InvariantKeptByStep_wide : topOfSpace.Inv ∧ ∃ t, step topOfSpace = .next t :=
  ⟨⟨by decide, by decide, by decide, by decide, by decide, by decide, by decide, nofun⟩, ⟨_, rfl⟩⟩

/-- The same hypotheses stand in the second part of `BlocksAreInvisible`. -/
theorem witness_StepRunsDecodedInstruction :
    (narrow.raised = none ∧ narrow.pc ∉ narrow.env.breakpoints ∧
      narrow.aborts .fetch narrow.pc narrow.mode.instrBytes narrow.priv = false ∧
      decodeWord narrow.mode (bytesAt narrow.mem narrow.cfg.endian narrow.space.bits narrow.pc.toNat 4)
        = .ok (.f32And ⟨0, false, 0, 0, .reg 0 .lsl 0⟩)) ∧
    (pageEnd.raised = none ∧ pageEnd.pc ∉ pageEnd.env.breakpoints ∧
      pageEnd.aborts .fetch pageEnd.pc pageEnd.mode.instrBytes pageEnd.priv = false ∧
      decodeWord pageEnd.mode (bytesAt pageEnd.mem pageEnd.cfg.endian pageEnd.space.bits pageEnd.pc.toNat 2)
        = .ok (.c16LslsShi ⟨0, 0, 0⟩)) ∧
    (topOfSpace.raised = none ∧ topOfSpace.pc ∉ topOfSpace.env.breakpoints ∧
      topOfSpace.aborts .fetch topOfSpace.pc topOfSpace.mode.instrBytes topOfSpace.priv = false ∧
      decodeWord topOfSpace.mode (bytesAt topOfSpace.mem topOfSpace.cfg.endian topOfSpace.space.bits topOfSpace.pc.toNat 4)
        = .ok .w64NopSys) := by decide

theorem witness_BlocksAreInvisible : ∃ s : State, s.ctx.isSome = true ∧ s.raised = none ∧ s.pc ∉ s.env.breakpoints ∧
    s.aborts .fetch s.pc s.mode.instrBytes s.priv = false ∧
    decodeWord s.mode (bytesAt s.mem s.cfg.endian s.space.bits s.pc.toNat s.mode.instrBytes)
      = .ok (.c16LslsShi ⟨0, 0, 0⟩) := ⟨pageEnd, by decide⟩

/-- A breakpoint; a refused fetch; a pending raise. -/
theorem witness_StepsWithoutAnInstruction :
    (∃ s : State, s.raised = none ∧ s.pc ∈ s.env.breakpoints) ∧
    (∃ s : State, s.raised = none ∧ s.pc ∉ s.env.breakpoints ∧ s.aborts .fetch s.pc s.mode.instrBytes s.priv = true) ∧
    (∃ (s : State) (r : Raise), s.raised = some r) :=
  ⟨⟨{ narrow with env := { narrow.env with breakpoints := [0x100] } }, by decide⟩,
   ⟨{ narrow with env := { narrow.env with abortRules := [⟨some .fetch, 0x100, 0x100, none, none⟩] } }, by decide⟩,
   ⟨{ narrow with raised := some ⟨.undef, 0x100, none⟩ }, ⟨.undef, 0x100, none⟩, rfl⟩⟩

/-- A state whose fetch gives the word `w`. -/
def holds (s : State) (w : Nat) : State := stored s s.pc.toNat s.mode.instrBytes w

/-- Unclassified patterns: F32 in the `1111` space, behind a condition that passes and one that fails; C16 outside a group
and in a slot that fails; W64. -/
theorem witness_StepsWithoutAnInstruction_unclassified :
    ([holds narrow 0xF57FF000, holds narrow 0xE7F000F0, holds narrow 0x07F000F0, holds compact 0xDE00,
      holds failedSlot 0xDE00, holds wide 0xD4000001].all fun s =>
        s.raised == none && !s.env.breakpoints.contains s.pc &&
        !s.aborts .fetch s.pc s.mode.instrBytes s.priv &&
        (decodeWord s.mode (bytesAt s.mem s.cfg.endian s.space.bits s.pc.toNat s.mode.instrBytes)).toOption == none)
      = true := by decide

theorem witness_DecodeEncodeF32 : ∃ i : Instr, i.wf = true ∧ i.mode = .f32 ∧ encode i = 0xE21104FF :=
  ⟨.f32And ⟨14, true, 1, 0, .imm 4 0xFF⟩, by decide⟩

theorem witness_DecodeEncodeC16 : ∃ i : Instr, i.wf = true ∧ i.mode = .c16 ∧ encode i = 0x4488 :=
  ⟨.c16AddHi ⟨1, 8⟩, by decide⟩

theorem witness_DecodeEncodeW64 : ∃ i : Instr, i.wf = true ∧ i.mode = .w64 ∧ encode i = 0x31000420 :=
  ⟨.w64AddsAsi ⟨false, false, 1, 1, 0⟩, by decide⟩

/-- The largest classified word of each mode. -/
theorem witness_DecodeGivesWellFormed :
    decodeWord .f32 0xFBFFFFFF = .ok (.f32BlxBlxi ⟨true, 0xFFFFFF⟩) ∧
    decodeWord .c16 0xFFFF = .ok (.c16BlBl2 ⟨0x7FF⟩) ∧
    decodeWord .w64 0xF97FFFFF = .ok (.w64Ldrx ⟨31, 31, .unsigned 0xFFF⟩) := by decide

/-! ### Witnesses: rules about every instruction -/

/-- An undefined form; a refused transfer. -/
theorem witness_EveryInstructionAnswersAndRaisesArePrecise :
    (∃ i s t r, s.raised = none ∧ exec i s = .next t ∧ t.raised = some r ∧ r.cause = .undef) ∧
    (∃ i s t r, s.raised = none ∧ exec i s = .next t ∧ t.raised = some r ∧ r.cause = .dataAbort) :=
  ⟨⟨.f32MulMul ⟨14, false, 15, 2, 1⟩, narrow, _, _, rfl, rfl, rfl, rfl⟩,
   ⟨.f32LdrLsi ⟨14, true, true, false, 1, 0, 1⟩, narrow, _, _, rfl, rfl, rfl, rfl⟩⟩

theorem witness_FailedConditionsSkip :
    ((Instr.f32BBr ⟨0, 2⟩).mode = .f32 ∧ narrow.flags.condPassed (shapeOf narrow (.f32BBr ⟨0, 2⟩)).cond = false) ∧
    ((Instr.c16PopPp ⟨true, 1⟩).mode = .c16 ∧ failedSlot.slotPassed = false) ∧
    ((Instr.c16BlBl1 ⟨1⟩).mode = .c16 ∧ failedSlot.slotPassed = false) := by decide

/-- One instruction of each encoding, and a write that changes a privileged-state register. -/
theorem witness_StateWriters :
    (∃ t, exec (.w64AddsAsi ⟨false, false, 1, 1, 0⟩) wide = .next t) ∧
    (∃ t, exec (.c16LslsShi ⟨4, 1, 0⟩) compact = .next t) ∧
    (∃ t, exec (.f32SyswSys ⟨14, 0, 1, 2, 0, 0⟩) withCells = .next t ∧ t.sysRegs ≠ withCells.sysRegs) :=
  ⟨⟨_, rfl⟩, ⟨_, rfl⟩, ⟨_, rfl, by decide⟩⟩

theorem witness_ModeChangesOnlyByInterworking :
    (∃ i s t, exec i s = .next t ∧ i.mode = s.mode ∧ s.mode = .f32 ∧ t.mode ≠ s.mode) ∧
    (∃ i s t, exec i s = .next t ∧ i.mode = s.mode ∧ s.mode = .c16 ∧ t.mode ≠ s.mode) :=
  ⟨⟨.f32BxMisc ⟨14, 1⟩, narrow.setR 1 0x2001, _, rfl, by decide⟩, ⟨.c16BxBx ⟨1⟩, compact, _, rfl, by decide⟩⟩

/-- The sticky bits set, the vector unit enabled. -/
def sticky : State :=
  { lanes with vstat := { lanes.vstat with sat := 0x81, ioc := true }, flags := { Flags.reset with q := true } }

theorem witness_StickyBitsStay :
    (∃ i t, exec i sticky = .next t ∧ sticky.flags.q = true ∧ t.flags.q = false) ∧
    (∃ i t, exec i sticky = .next t ∧ sticky.vstat.sat[0] = true ∧ t.vstat.sat[0] = false) ∧
    (∃ i t, exec i sticky = .next t ∧ sticky.vstat.sat[7] = true ∧ t.vstat.sat[7] = false) ∧
    (∃ i t, exec i sticky = .next t ∧ sticky.vstat.ioc = true ∧ t.vstat.ioc = false) :=
  ⟨⟨.f32MsrMisc ⟨14, 8, 0⟩, _, rfl, by decide⟩, ⟨.f32VmsrVctl ⟨14, 2, 0⟩, _, rfl, by decide⟩,
   ⟨.f32VmsrVctl ⟨14, 2, 0⟩, _, rfl, by decide⟩, ⟨.f32VmsrVctl ⟨14, 1, 0⟩, _, rfl, by decide⟩⟩

/-- User mode; a lane operation with the unit disabled, and with a replication field; a slot that passes and is not the
last; a condition that passes. The fields named in the clauses are free. -/
theorem witness_UndefinedForms :
    (userMode.priv = .user ∧ userMode.passes 14) ∧
    (narrow.passes 14 ∧ ¬ narrow.lanesOn) ∧
    (∃ s : State, s.passes 14 ∧ s.vstat.en = true ∧ ¬ s.lanesOn) ∧
    (inSlot.slotRuns ∧ inSlot.itstate.toNat % 16 ≠ 0 ∧ inSlot.itstate.toNat % 8 ≠ 0) ∧
    (lastSlot.slotRuns ∧ lastSlot.itstate.toNat % 16 ≠ 0 ∧ lastSlot.itstate.toNat % 8 = 0) ∧ compact.slotRuns :=
  ⟨⟨rfl, rfl⟩, ⟨rfl, by unfold State.lanesOn; decide⟩,
   ⟨{ lanes with vstat := { lanes.vstat with stride := 3 } }, rfl, rfl, by unfold State.lanesOn; decide⟩,
   ⟨rfl, by decide, by decide⟩, ⟨rfl, by decide, by decide⟩, rfl⟩

/-! ### Witnesses: the operand functions -/

/-- The amounts at the ends of every range of the register-supplied shift. -/
theorem witness_BarrelShifter :
    ((0 : BitVec 5).toNat = 0 ∧ 0 < (1 : BitVec 5).toNat ∧ 0 < (31 : BitVec 5).toNat) ∧
    ((0 : BitVec 8).toNat = 0 ∧ 1 ≤ (1 : BitVec 8).toNat ∧ (31 : BitVec 8).toNat ≤ 31 ∧ (32 : BitVec 8).toNat = 32 ∧
      33 ≤ (33 : BitVec 8).toNat ∧ 33 ≤ (255 : BitVec 8).toNat ∧
      ((224 : BitVec 8).toNat ≠ 0 ∧ (224 : BitVec 8).toNat % 32 = 0) ∧ (255 : BitVec 8).toNat % 32 ≠ 0) := by decide

theorem witness_SecondOperand : (14 : Fin 16) ≠ 15 ∧ (0 : Fin 16) ≠ 15 := by decide

theorem witness_SingleAddresses : F32.VLS.wf ⟨14, false, true, true, 1, 4, 2⟩ = true := by decide

theorem witness_SharedOperations : (1 ≤ 1 ∧ 1 ≤ 16) ∧ (1 ≤ 16 ∧ 16 ≤ 16) ∧
    (0xFFFFFFFF : Word)[0] = true ∧ (0xFFFFFFFE : Word)[0] = false := by decide

/-- A store that the port answers, at the last aligned address and across the top of the space. -/
theorem witness_LoadAfterStore :
    let s : State := { narrow with cfg := { narrow.cfg with misaligned := .allow } }
    Memory.wf s.mem = true ∧ (0xFFFFFFFF : DWord).toNat < 2 ^ Space.narrow.bits ∧
    (∃ t, s.store .narrow .user 0xFFFFFFFF 8 0x1122334455667788 = .ok t ∧
      t.aborts .read 0xFFFFFFFF 8 .user = false) ∧
    (∃ t, s.store .wide .privileged 0x1000 1 0xAB = .ok t ∧ t.aborts .read 0x1000 1 .privileged = false) :=
  ⟨by decide, by decide, ⟨_, rfl, by decide⟩, ⟨_, rfl, by decide⟩⟩

theorem witness_SaturatingLaneFunctions : 0 < 8 ∧ 0xFF < 2 ^ 8 ∧ 0 < 2 ^ 8 ∧ (1 : Nat) < 2 := by decide

/-- A NaN, infinities, subnormal and largest finite numbers at both widths. -/
theorem witness_FloatCompareIsExact :
    (isFinite 32 0x7F800001 = false ∧ 0x7F800001 % 2 ^ fracBits 32 ≠ 0) ∧
    (isFinite 32 0xFF800000 = false ∧ 0xFF800000 % 2 ^ fracBits 32 = 0) ∧
    (isFinite 32 1 = true ∧ isFinite 32 0x7F7FFFFF = true) ∧
    (isFinite 64 0xFFFFFFFFFFFFFFFF = false ∧ 0xFFFFFFFFFFFFFFFF % 2 ^ fracBits 64 ≠ 0) ∧
    (isFinite 64 0x7FF0000000000000 = false ∧ 0x7FF0000000000000 % 2 ^ fracBits 64 = 0) ∧
    (isFinite 64 0x8000000000000000 = true ∧ isFinite 64 0x7FEFFFFFFFFFFFFF = true) := by decide

/-! ### Witnesses: F32 -/

theorem witness_LogicalOpcodes : narrow.passes 14 ∧ op2Clear (.regShift 2 .lsl 1) 1 14 ∧ (14 : Fin 16) ≠ 15 :=
  ⟨rfl, by unfold op2Clear; decide, by decide⟩

theorem witness_ArithmeticOpcodes : narrow.passes 1 ∧ op2Clear (.imm 4 0xFF) 15 0 ∧ (0 : Fin 16) ≠ 15 :=
  ⟨rfl, trivial, by decide⟩

/-- A branch; an undefined form with `S`; an undefined register-shifted form. -/
theorem witness_DataProcessingRegister15 :
    (narrow.passes 14 ∧ op2Clear (.reg 0 .lsl 1) 0 15) ∧
    (F32.DP.mk 14 true 0 15 (.reg 0 .lsl 1)).s = true ∧ ¬ op2Clear (.regShift 15 .lsl 1) 0 0 :=
  ⟨⟨rfl, trivial⟩, rfl, by unfold op2Clear; decide⟩

theorem witness_CompareOpcodes : narrow.passes 14 ∧ op2Clear (.regShift 2 .ror 1) 14 0 :=
  ⟨rfl, by unfold op2Clear; decide⟩

/-- The conditions of `Multiplies`, `SaturatingInstructions`, `BranchesF32` and of the first parts of `VectorTransfers`. -/
theorem witness_Multiplies : narrow.passes 14 := rfl

theorem witness_SaturatingInstructions : sticky.passes 14 := rfl

/-- An absent hint at each end of its range; the other fields are free. -/
theorem witness_StatusRegisterAccess : narrow.passes 14 ∧ narrow.mode = .f32 ∧
    (∀ f ∈ [F32.MSRI.mk 14 0 0 1, .mk 14 0 0 4], narrow.passes f.cond ∧ f.fmask = 0 ∧ f.rot = 0 ∧ f.imm8 ∈ [1, 2, 3, 4]) := by
  unfold State.passes
  decide

/-- An unsigned and a signed offset, and a word for register 15. -/
theorem witness_SingleLoads :
    let f : F32.LSI := ⟨14, false, true, false, 1, 0, 4⟩
    let g : F32.LSR := ⟨14, true, false, true, 1, 15, 0, .lsl, 3⟩
    (narrow.passes f.cond ∧ (addrLsi f).rmIs15 = false ∧ ((addrLsi f).wback = true → (addrLsi f).rn ≠ 15) ∧ f.rd ≠ 15 ∧
      narrow.canRead32 narrow.priv ((addrLsi f).resolve narrow).address 4) ∧
    (g.rd = 15 ∧ g.rm ≠ 15 ∧ ((addrLsr g narrow).wback = true → g.rn ≠ 15) ∧
      narrow.canRead32 narrow.priv ((addrLsr g narrow).resolve narrow).address 4) :=
  ⟨⟨rfl, rfl, by decide, by decide, by unfold State.canRead32; decide⟩,
   by decide, by decide, by decide, by unfold State.canRead32; decide⟩

/-- The user-access, halfword and literal forms of the loads. -/
theorem witness_SingleLoads_forms :
    let u : F32.LSIT := ⟨14, true, 1, 0, 4⟩
    let v : F32.LSRT := ⟨14, false, 1, 14, 2, .lsl, 3⟩
    let h : F32.LSHI := ⟨14, true, true, true, 1, 0, 2⟩
    let k : F32.LSHR := ⟨14, false, false, false, 1, 0, 3⟩
    narrow.canRead32 .user ((addrLsit u).resolve narrow).address 4 ∧
    narrow.canRead32 .user ((addrLsrt v narrow).resolve narrow).address 4 ∧
    narrow.canRead32 narrow.priv ((addrLshi h).resolve narrow).address 2 ∧
    narrow.canRead32 narrow.priv ((addrLshr k narrow).resolve narrow).address 2 := by
  unfold State.canRead32; decide

/-- A store of register 15 and one with writeback. -/
theorem witness_SingleStores :
    let f : F32.LSI := ⟨14, true, true, false, 1, 15, 4⟩
    let g : F32.LSRT := ⟨14, true, 1, 0, 31, .ror, 3⟩
    (narrow.passes f.cond ∧ Memory.wf narrow.mem = true ∧ (addrLsi f).rmIs15 = false ∧
      ((addrLsi f).wback = true → (addrLsi f).rn ≠ 15) ∧
      narrow.canWrite32 narrow.priv ((addrLsi f).resolve narrow).address 4) ∧
    (g.rd ≠ 15 ∧ (addrLsrt g narrow).rmIs15 = false ∧ ((addrLsrt g narrow).wback = true → (addrLsrt g narrow).rn ≠ 15) ∧
      narrow.canWrite32 .user ((addrLsrt g narrow).resolve narrow).address 4) :=
  ⟨⟨rfl, by decide, by decide, by decide, by unfold State.canWrite32; decide⟩,
   by decide, by decide, by decide, by unfold State.canWrite32; decide⟩

/-- `s` with a port that refuses the requests at `a`, of either kind. -/
def refusing (s : State) (a : DWord) : State := { s with env := { s.env with abortRules := [⟨none, a, a, none, none⟩] } }

/-- A first request: a misaligned load under `MISALIGNED = abort`, and a doubleword of the vector unit. -/
theorem witness_RefusedRequestsAbort :
    (Memory.wf narrow.mem = true ∧ ∃ q, requests (.f32LdrLsi ⟨14, true, true, false, 1, 0, 1⟩) narrow = [] ++ q :: [] ∧
      narrow.refuses q = true ∧ narrow.cfg.misaligned = .abort ∧ q.addr.toNat % q.size ≠ 0) ∧
    (let s := refusing lanes 0x1008
     Memory.wf s.mem = true ∧ ∃ q, requests (.f32VstrVls ⟨14, true, true, true, 1, 4, 2⟩) s = [] ++ q :: [] ∧
      s.refuses q = true) :=
  ⟨⟨by decide, _, rfl, by decide⟩, by decide, _, rfl, by decide⟩

/-- A later request, the ones before it answered: the second of `STRD` and `STP`, the third of `STM`, the last of
`PUSH`, and the write of a swap. -/
theorem witness_RefusedRequestsAbort_later :
    let last (i : Instr) (s : State) (n : Nat) : Bool :=
      Memory.wf s.mem && (requests i s).length == n + 1 && ((requests i s).take n).all (fun p => !s.refuses p) &&
        ((requests i s).drop n).all s.refuses
    let readOnly : State := { narrow with env := { narrow.env with abortRules := [⟨some .write, 0x1000, 0x1000, none, none⟩] } }
    last (.f32StrdLshi ⟨14, true, true, false, 1, 2, 0⟩) (refusing narrow 0x1004) 1 = true ∧
    last (.f32StmLsm ⟨14, false, true, false, true, 1, 0x8005⟩) (refusing narrow 0x1008) 2 = true ∧
    last (.c16PushPp ⟨true, 0x81⟩) (refusing compact 0xFFFFFFFC) 2 = true ∧
    last (.f32SwpSwp ⟨14, 1, 0, 2⟩) readOnly 1 = true ∧
    last (.w64StpLsp ⟨true, 2, 0, 2, 1, 0⟩) (refusing wide 0x2008) 1 = true := by decide

theorem witness_DoublewordTransfers :
    let f : F32.LSHI := ⟨14, false, true, false, 1, 12, 8⟩
    narrow.passes f.cond ∧ f.rd.val % 2 = 0 ∧ f.rd ≠ 14 ∧ Memory.wf narrow.mem = true ∧ (addrLshi f).rmIs15 = false ∧
    ((addrLshi f).wback = true → (addrLshi f).rn ≠ 15) ∧
    narrow.canRead32 narrow.priv ((addrLshi f).resolve narrow).address 4 ∧
    narrow.canRead32 narrow.priv (((addrLshi f).resolve narrow).address + 4) 4 ∧
    narrow.canWrite32 narrow.priv ((addrLshi f).resolve narrow).address 4 ∧
    narrow.canWrite32 narrow.priv (((addrLshi f).resolve narrow).address + 4) 4 := by
  unfold State.canRead32 State.canWrite32
  exact ⟨rfl, by decide⟩

/-- All registers, decrementing across the bottom of the space; and the privileged form with `S`. -/
theorem witness_LoadMultiple :
    let f : F32.LSM := ⟨14, true, false, false, true, 0, 0xFFFF⟩
    let g : F32.LSM := ⟨14, false, true, true, false, 1, 0x7FFF⟩
    (narrow.passes f.cond ∧ f.rn ≠ 15 ∧ f.reglist ≠ 0 ∧ (∀ i : Fin 16, f.reglist[i] = true →
      narrow.canRead32 narrow.priv
        (slotAddr f.reglist (multiStart (narrow.rF f.rn) (listSize f.reglist) f.p f.u) i) 4)) ∧
    (g.s = true ∧ narrow.priv = .privileged ∧ g.w = false ∧ g.reglist[15] = false ∧ (∀ i : Fin 16, g.reglist[i] = true →
      narrow.canRead32 narrow.priv
        (slotAddr g.reglist (multiStart (narrow.rF g.rn) (listSize g.reglist) g.p g.u) i) 4)) := by
  unfold State.canRead32
  exact ⟨⟨rfl, by decide, by decide, by decide⟩, by decide⟩

theorem witness_StoreMultiple :
    let f : F32.LSM := ⟨14, true, false, true, false, 0, 0xFFFF⟩
    narrow.passes f.cond ∧ f.rn ≠ 15 ∧ f.reglist ≠ 0 ∧ (f.s = true ∧ narrow.priv = .privileged ∧ f.w = false) ∧
    Memory.wf narrow.mem = true ∧ (∀ i : Fin 16, f.reglist[i] = true →
      narrow.canWrite32 narrow.priv
        (slotAddr f.reglist (multiStart (narrow.rF f.rn) (listSize f.reglist) f.p f.u) i) 4) := by
  unfold State.canWrite32
  exact ⟨rfl, by decide⟩

/-- The lock free, and held by another context. -/
theorem witness_SwapInstructions :
    narrow.passes 14 ∧ (narrow.lock = .free ∧ Memory.wf narrow.mem = true ∧
      narrow.canRead32 narrow.priv (narrow.rF 1) 4 ∧ narrow.canWrite32 narrow.priv (narrow.rF 1) 4 ∧
      narrow.canRead32 narrow.priv (narrow.rF 2) 1 ∧ narrow.canWrite32 narrow.priv (narrow.rF 2) 1) ∧
    (∃ s : State, s.passes 14 ∧ s.lock = .held) := by
  unfold State.canRead32 State.canWrite32
  exact ⟨rfl, by decide, { narrow with lock := .held }, rfl, rfl⟩

theorem witness_BranchesF32 : narrow.passes 14 := rfl

/-- Register 15; a key with no cell; a key whose cell stands behind another. -/
theorem witness_PrivilegedStateRegisters :
    let f : F32.SYS := ⟨14, 0, 1, 2, 0, 0⟩
    let key (c : SysCell) : Bool := c.opc1 == f.opc1 && c.crn == f.crn && c.crm == f.crm && c.opc2 == f.opc2
    (narrow.passes f.cond ∧ narrow.priv = .privileged ∧ (15 : Fin 16) = 15 ∧ (∀ c ∈ narrow.sysRegs, key c = false)) ∧
    (withCells.passes f.cond ∧ withCells.priv = .privileged ∧ f.rt ≠ 15 ∧
      ∃ before c after, withCells.sysRegs = before ++ c :: after ∧ key c = true ∧ (∀ d ∈ before, key d = false)) :=
  ⟨⟨rfl, by decide⟩, rfl, rfl, by decide, [⟨0, 2, 0, 0, 7, true, true, 0xFF, 0⟩], ⟨0, 1, 0, 0, 9, true, true, 0xFF, 0⟩, [],
    by decide⟩

/-- The vector unit enabled without replication: the condition of every statement about lanes. Its clauses ask for the
fields `U` and `sz` at values that stand in them. -/
theorem witness_LaneArithmetic : lanes.passes 14 ∧ lanes.lanesOn := ⟨rfl, by unfold State.lanesOn; decide⟩

theorem witness_LaneSaturation : sticky.passes 14 ∧ sticky.lanesOn ∧ (1 : BitVec 2) ≠ 0 :=
  ⟨rfl, by unfold State.lanesOn; decide, by decide⟩

theorem witness_LaneWidening : lanes.passes 14 ∧ lanes.lanesOn ∧ (2 : BitVec 2) ≠ 3 ∧ (0 : Fin 16) = 0 :=
  ⟨rfl, by unfold State.lanesOn; decide, by decide, rfl⟩

theorem witness_LaneRearrangement :
    let f : F32.VOP := ⟨14, 0, 2, false, 0, 1⟩
    let g : F32.VOP := ⟨14, 0, 2, false, 3, 1⟩
    (lanes.passes f.cond ∧ lanes.lanesOn ∧ f.u = false ∧ f.sz = 0 ∧ f.sz ≠ 3) ∧ g.u = false ∧ g.sz ≠ 0 :=
  ⟨⟨rfl, by unfold State.lanesOn; decide, by decide⟩, by decide⟩

theorem witness_LaneCompares : lanes.passes 14 ∧ lanes.lanesOn ∧ (F32.VOP.mk 14 0 2 false 3 1).u = false :=
  ⟨rfl, by unfold State.lanesOn; decide, rfl⟩

theorem witness_FloatCompares :
    let f : F32.VOP := ⟨14, 0, 0, false, 2, 1⟩
    let g : F32.VOP := ⟨14, 0, 0, false, 3, 1⟩
    lanes.passes f.cond ∧ lanes.lanesOn ∧ f.u = false ∧ 2 ≤ f.sz.toNat ∧ f.vd = 0 ∧ g.u = false ∧ 2 ≤ g.sz.toNat :=
  ⟨rfl, by unfold State.lanesOn; decide, by decide⟩

/-- The transfers of a cell, of each control register number at the ends of its ranges, and an access of eight bytes with
and without writeback. -/
theorem witness_VectorTransfers :
    let q : F32.VLS := ⟨14, false, true, true, 1, 4, 2⟩
    let p : F32.VLS := ⟨14, true, true, false, 1, 4, 2⟩
    (lanes.passes 14 ∧ lanes.vstat.en = true ∧ lanes.priv = .privileged ∧ (0 : Fin 16) ≠ 15 ∧ (0 : Fin 16) ≠ 14) ∧
    (3 < (4 : BitVec 4).toNat ∧ 3 < (15 : BitVec 4).toNat) ∧
    (∀ f ∈ [q, p], (f.w = true → f.rn ≠ 15) ∧ lanes.canRead32 lanes.priv (vlsAddr f lanes).address 8 ∧
      lanes.canWrite32 lanes.priv (vlsAddr f lanes).address 8) ∧ Memory.wf lanes.mem = true := by
  unfold State.canRead32 State.canWrite32
  exact ⟨⟨rfl, by decide⟩, by decide, by decide, by decide⟩

/-! ### Witnesses: C16 and W64 -/

/-- Outside a group, in a slot and in the last slot. -/
theorem witness_LogicalC16 : compact.slotRuns ∧ inSlot.slotRuns ∧ lastSlot.slotRuns := ⟨rfl, rfl, rfl⟩

theorem witness_ArithmeticC16 : compact.slotRuns ∧ inSlot.slotRuns := ⟨rfl, rfl⟩

/-- `IT` outside a group and inside one. -/
theorem witness_MovesC16 : (compact.slotRuns ∧ compact.itstate.toNat % 16 = 0) ∧
    (inSlot.slotRuns ∧ inSlot.itstate.toNat % 16 ≠ 0) ∧ (C16.HI.mk 1 14).d ≠ 15 :=
  ⟨⟨rfl, by decide⟩, ⟨rfl, by decide⟩, by decide⟩

theorem witness_LoadsAndStoresC16 :
    lastSlot.slotRuns ∧ Memory.wf lastSlot.mem = true ∧ lastSlot.canRead32 lastSlot.priv 0x1000 4 ∧
    lastSlot.canWrite32 lastSlot.priv 0xFFFFFFFC 4 := by
  unfold State.canRead32 State.canWrite32
  exact ⟨rfl, by decide⟩

/-- `PUSH` and `POP` with every register, outside a group and in its last slot; the base in the list of `LDMIA`. -/
theorem witness_MultiplesC16 :
    (∀ s ∈ [compact, lastSlot], s.slotPassed = true ∧ Memory.wf s.mem = true ∧ s.mayBranch = true ∧
      (∀ k : Fin 16, (0x40FF : BitVec 16)[k] = true →
        s.aborts .write ((slotAddr 0x40FF (multiStart (s.rC 13) 9 true false) k).setWidth 64) 4 s.priv = false) ∧
      (∀ k : Fin 16, (0x80FF : BitVec 16)[k] = true →
        s.aborts .read ((slotAddr 0x80FF (s.rC 13) k).setWidth 64) 4 s.priv = false)) ∧
    (inSlot.slotRuns ∧ ∀ k : Fin 16, (0x0003 : BitVec 16)[k] = true →
      inSlot.aborts .read ((slotAddr 0x0003 (inSlot.rC 1) k).setWidth 64) 4 inSlot.priv = false) :=
  ⟨by decide, rfl, by decide⟩

theorem witness_BranchesC16 :
    (compact.slotRuns ∧ compact.mayBranch = true ∧ compact.itstate.toNat % 16 = 0) ∧
    (lastSlot.slotRuns ∧ lastSlot.mayBranch = true) ∧ inSlot.slotRuns :=
  ⟨⟨rfl, by decide⟩, ⟨rfl, by decide⟩, rfl⟩

theorem witness_AddSubtractW64 :
    W64.ASR.wf ⟨true, .asr, 2, 63, 1, 0⟩ = true ∧ W64.ASR.wf ⟨false, .lsr, 2, 31, 1, 0⟩ = true := by decide

theorem witness_LogicalAndMovesW64 :
    W64.LOGR.wf ⟨true, .ror, 2, 63, 1, 0⟩ = true ∧ W64.LOGR.wf ⟨false, .ror, 2, 31, 1, 0⟩ = true ∧
    W64.MOVW.wf ⟨true, 3, 0xFFFF, 0⟩ = true ∧ W64.MOVW.wf ⟨false, 1, 0xFFFF, 0⟩ = true := by decide

/-- A register offset, a writeback, a literal and both widths of a pair. -/
theorem witness_LoadsAndStoresW64 :
    let a : W64.LS := ⟨1, 0, .reg 31 6 true⟩
    let b : W64.LS := ⟨1, 1, .signed 0x1F8 3⟩
    let p : W64.LSP := ⟨true, 1, 1, 2, 1, 0⟩
    (a.wf = true ∧ b.wf = true ∧ p.wf = true ∧ Memory.wf wide.mem = true) ∧
    (wide.canRead64 (w64Addr 3 a wide).address 8 ∧ wide.canWrite64 (w64Addr 3 b wide).address 8) ∧
    (wide.canRead64 (BitVec.ofInt 64 (wide.pc.toNat + 4 * (-1))) 4 ∧ wide.canRead64 0x108 8) ∧
    (wide.canRead64 (pairAddr p wide).address 8 ∧ wide.canRead64 ((pairAddr p wide).address + 8) 8 ∧
      wide.canWrite64 (pairAddr p wide).address 8 ∧ wide.canWrite64 ((pairAddr p wide).address + 8) 8) := by
  unfold State.canRead64 State.canWrite64
  decide

end Sys2Proof.Tests
end

section
/-! PROOFS. The condition evaluator (40_condition_shifter.md R150 to R152): the sixteen rows come in eight pairs, one for
each value of the upper three bits, and the lowest bit chooses the row of a pair. -/

namespace Sys2Proof.Machine

/-- The base predicate of a pair of rows (40_condition_shifter.md R151): it is `ConditionPassed` of the pair's even row,
see `Flags.condPassed_of_even`. -/
def Flags.basePredicate (f : Flags) (pair : BitVec 3) : Bool :=
  match pair.toNat with
  | 0 => f.z
  | 1 => f.c
  | 2 => f.n
  | 3 => f.v
  | 4 => f.c && !f.z
  | 5 => f.n == f.v
  | 6 => (f.n == f.v) && !f.z
  | _ => true

/-- The row number: the pair is `c[3:1]`, the place in the pair `c[0]`. -/
theorem Cond.toNat_eq_pair (c : Cond) : c.toNat = 2 * (c.extractLsb' 1 3).toNat + (c.getLsbD 0).toNat := by
  have hc := c.isLt
  have hpair : (c.extractLsb' 1 3).toNat = c.toNat / 2 := by
    rw [BitVec.extractLsb'_toNat, Nat.shiftRight_eq_div_pow]
    omega
  have hlow : (c.getLsbD 0).toNat = c.toNat % 2 := by
    rw [BitVec.getLsbD, Nat.toNat_testBit, pow_zero, Nat.div_one]
  omega

theorem Flags.condPassed_of_even (f : Flags) {c : Cond} {pair : BitVec 3} (hrow : c.toNat = 2 * pair.toNat) :
    f.condPassed c = f.basePredicate pair := by
  have hlt := pair.isLt
  unfold condPassed basePredicate
  rw [hrow]
  generalize pair.toNat = k at hlt ⊢
  match k, hlt with
  | 6, _ => exact Bool.and_comm _ _
  | 0, _ | 1, _ | 2, _ | 3, _ | 4, _ | 5, _ | 7, _ => rfl

/-- The odd row of a pair is the negation of the even one: De Morgan where a row joins two conditions. -/
theorem Flags.condPassed_of_odd (f : Flags) {c : Cond} {pair : BitVec 3} (hrow : c.toNat = 2 * pair.toNat + 1)
    (hpair : pair ≠ 7) : f.condPassed c = !f.basePredicate pair := by
  have hlt : pair.toNat < 7 := by bv_omega
  unfold condPassed basePredicate
  rw [hrow]
  generalize pair.toNat = k at hlt ⊢
  match k, hlt with
  | 4, _ => simp
  | 6, _ => simp [bne, Bool.or_comm]
  | 0, _ | 1, _ | 2, _ | 3, _ | 5, _ => rfl

/-- The pair `111` has no negated row: the reserved selector passes like `AL` (40_condition_shifter.md R152). -/
theorem Flags.condPassed_reserved (f : Flags) : f.condPassed 15 = f.basePredicate 7 := rfl

theorem Flags.condPassed_eq_basePredicate (f : Flags) (c : Cond) :
    f.condPassed c =
      if c.getLsbD 0 = false ∨ c.extractLsb' 1 3 = 7 then f.basePredicate (c.extractLsb' 1 3)
      else !f.basePredicate (c.extractLsb' 1 3) := by
  have hrow := Cond.toNat_eq_pair c
  generalize c.extractLsb' 1 3 = pair, c.getLsbD 0 = low at hrow ⊢
  cases low with
  | false =>
    rw [if_pos (.inl rfl)]
    exact f.condPassed_of_even hrow
  | true =>
    by_cases hpair : pair = 7
    · subst hpair
      have hc : c = 15 := BitVec.eq_of_toNat_eq hrow
      rw [if_pos (.inr rfl), hc, condPassed_reserved]
    · rw [if_neg (not_or.mpr ⟨nofun, hpair⟩)]
      exact f.condPassed_of_odd hrow hpair

/-- Settles O18: the evaluator's rows read as a pair's base predicate and its negation. -/
theorem conditionEvaluator : Obligations.ConditionEvaluator :=
  fun f c => f.condPassed_eq_basePredicate c

end Sys2Proof.Machine
end

section
/-! PROOFS. The saturating lane functions (41_lane_semantics.md R184 to R187): `Clamp` as the reduction of the nearest
value of the lane's range, from which the properties of `SatAdd` and `SatSub` follow. -/

namespace Sys2Proof.Machine

/-! ### The range of a lane holds 0 and the value of every pattern -/

theorem laneLo_nonpos (w : Nat) (g : Bool) : laneLo w g ≤ 0 := by
  have hpos : (0 : Int) < 2 ^ (w - 1) := by positivity
  cases g <;> simp only [laneLo, Bool.false_eq_true, if_false, if_true] <;> omega

theorem laneHi_nonneg (w : Nat) (g : Bool) : 0 ≤ laneHi w g := by
  have hhalf : (0 : Int) < 2 ^ (w - 1) := by positivity
  have hfull : (0 : Int) < 2 ^ w := by positivity
  cases g <;> simp only [laneHi, Bool.false_eq_true, if_false, if_true] <;> omega

theorem laneLo_le_laneHi (w : Nat) (g : Bool) : laneLo w g ≤ laneHi w g :=
  (laneLo_nonpos w g).trans (laneHi_nonneg w g)

@[simp] theorem laneVal_unsigned (w x : Nat) : laneVal w false x = x := rfl

@[simp] theorem laneVal_zero (w : Nat) (g : Bool) : laneVal w g 0 = 0 := by
  simp [laneVal]

theorem wrapLane_laneVal {w x : Nat} (g : Bool) (hx : x < 2 ^ w) : wrapLane w (laneVal w g x) = x := by
  have hmod : (x : Int) % 2 ^ w = x := Int.emod_eq_of_lt (by positivity) (by exact_mod_cast hx)
  rw [wrapLane, laneVal_emod, hmod, Int.toNat_natCast]

theorem laneVal_mem_range {w x : Nat} (hw : 0 < w) (g : Bool) (hx : x < 2 ^ w) :
    laneLo w g ≤ laneVal w g x ∧ laneVal w g x ≤ laneHi w g := by
  have hp := two_pow_pred hw
  have hx : (x : Int) < 2 ^ w := by exact_mod_cast hx
  cases g with
  | false =>
    simp only [laneVal_unsigned, laneLo, laneHi, Bool.false_eq_true, if_false]
    omega
  | true =>
    simp only [laneVal, laneLo, laneHi, Bool.true_and, decide_eq_true_eq, if_true]
    have hhalf : 2 ^ (w - 1) ≤ x ↔ (2 : Int) ^ (w - 1) ≤ x := by exact_mod_cast Iff.rfl
    simp only [hhalf]
    split <;> omega

/-! ### `Clamp` through the nearest value -/

theorem nearest_mem_range (w : Nat) (g : Bool) (v : Int) :
    laneLo w g ≤ nearest w g v ∧ nearest w g v ≤ laneHi w g :=
  ⟨le_max_left _ _, max_le (laneLo_le_laneHi w g) (min_le_right _ _)⟩

theorem overflows_iff (w : Nat) (g : Bool) (v : Int) :
    overflows w g v = true ↔ v < laneLo w g ∨ laneHi w g < v := decide_eq_true_iff

theorem clampLane_of_lt {w : Nat} {g : Bool} {v : Int} (hv : v < laneLo w g) :
    clampLane w g v = (wrapLane w (laneLo w g), true) :=
  (if_neg (hv.trans_le (laneLo_le_laneHi w g)).not_gt).trans (if_pos hv)

/-- A pattern is the reduction of its value, so `Clamp` gives it by reducing the nearest value. -/
theorem clampLane_eq {w : Nat} (hw : 0 < w) (g : Bool) (v : Int) :
    clampLane w g v = (wrapLane w (nearest w g v), overflows w g v) := by
  obtain ⟨hval, hflag, hlt⟩ := clampLane_spec hw g v
  refine Prod.ext ?_ hflag
  rw [← hval, wrapLane_laneVal g hlt]

theorem clampLane_pattern {w : Nat} (hw : 0 < w) (g : Bool) (v : Int) :
    ((clampLane w g v).1 : Int) = nearest w g v % 2 ^ w := by
  rw [clampLane_eq hw, wrapLane_cast]

/-- The value of every pattern is representable, so `Clamp` gives the pattern back without an indication. -/
theorem clampLane_laneVal {w x : Nat} (hw : 0 < w) (g : Bool) (hx : x < 2 ^ w) :
    clampLane w g (laneVal w g x) = (x, false) := by
  obtain ⟨hlo, hhi⟩ := laneVal_mem_range hw g hx
  have hnear : nearest w g (laneVal w g x) = laneVal w g x := by rw [nearest, min_eq_left hhi, max_eq_right hlo]
  have hflag : overflows w g (laneVal w g x) = false :=
    decide_eq_false (not_or.mpr ⟨hlo.not_gt, hhi.not_gt⟩)
  rw [clampLane_eq hw, hnear, hflag, wrapLane_laneVal g hx]

theorem clampLane_mem_range {w : Nat} (hw : 0 < w) (g : Bool) (v : Int) :
    laneLo w g ≤ laneVal w g (clampLane w g v).1 ∧ laneVal w g (clampLane w g v).1 ≤ laneHi w g := by
  obtain ⟨hval, -, -⟩ := clampLane_spec hw g v
  rw [hval]
  exact nearest_mem_range w g v

theorem clampLane_flag {w : Nat} (hw : 0 < w) (g : Bool) (v : Int) : (clampLane w g v).2 = overflows w g v := by
  rw [clampLane_eq hw]

theorem clampLane_flag_iff {w : Nat} (hw : 0 < w) (g : Bool) (v : Int) :
    (clampLane w g v).2 = true ↔ v < laneLo w g ∨ laneHi w g < v := by
  rw [clampLane_flag hw, overflows_iff]

/-! ### `SatAdd` and `SatSub` -/

theorem satAdd_zero {w a : Nat} (hw : 0 < w) (g : Bool) (ha : a < 2 ^ w) : satAdd w g a 0 = (a, false) := by
  rw [satAdd, laneVal_zero, Int.add_zero, clampLane_laneVal hw g ha]

theorem satSub_zero {w a : Nat} (hw : 0 < w) (g : Bool) (ha : a < 2 ^ w) : satSub w g a 0 = (a, false) := by
  rw [satSub, laneVal_zero, Int.sub_zero, clampLane_laneVal hw g ha]

theorem satAdd_comm (w : Nat) (g : Bool) (a b : Nat) : satAdd w g a b = satAdd w g b a := by
  rw [satAdd, satAdd, Int.add_comm]

theorem satSub_unsigned_of_lt {w a b : Nat} (hab : a < b) : satSub w false a b = (0, true) := by
  have hneg : laneVal w false a - laneVal w false b < laneLo w false := by
    simp only [laneVal_unsigned, laneLo, Bool.false_eq_true, if_false]
    omega
  rw [satSub, clampLane_of_lt hneg]
  simp [laneLo, wrapLane]

/-- At 8 bits `1 - 0` is the pattern 1 and `0 - 1` is the pattern of -1. -/
theorem satSub_not_symmetric : satSub 8 true 1 0 ≠ satSub 8 true 0 1 := by decide

/-- Settles O24: each property of `SatAdd` and `SatSub` is one of `Clamp` at the exact sum or difference. -/
theorem saturatingLaneFunctions : Obligations.SaturatingLaneFunctions := by
  refine ⟨fun w g hw => ⟨fun v => ?clamp, fun a b ha _ => ?sums⟩, satSub_not_symmetric⟩
  case clamp => exact ⟨clampLane_pattern hw g v, clampLane_flag hw g v⟩
  case sums =>
    refine ⟨rfl, rfl, ?unsigned, satAdd_zero hw g ha, satSub_zero hw g ha, satAdd_comm w g a b,
      clampLane_mem_range hw g _, clampLane_mem_range hw g _, clampLane_flag_iff hw g _, clampLane_flag_iff hw g _⟩
    rintro rfl hab
    exact satSub_unsigned_of_lt hab

end Sys2Proof.Machine
end

section
/-! PROOFS. The single-address rule (42_addressing_modes.md R221): the sum in integer arithmetic is the laws'
`resolveSingle_eq`; a new base is answered exactly under `wback`, and each post-indexed format sets `wback`. -/

namespace Sys2Proof.Machine

@[simp] theorem resolveSingle_newBase_isSome {w : Nat} (base off : BitVec w) (add index wback : Bool) :
    (resolveSingle base off add index wback).newBase.isSome = wback := by
  cases wback <;> rfl

/-- `wback` is `not P or W` in the F32 single-register formats (44_f32_load_store.md R300). -/
theorem SingleAddr.newBase_of_postIndexed {a : SingleAddr} (hp : a.p = false) (s : State) :
    (a.resolve s).newBase.isSome = true := by
  rw [resolve, resolveSingle_newBase_isSome, wback, hp, Bool.not_false, Bool.true_or]

/-- Index 1 is the post-indexed form of a signed offset (48_w64.md R565). -/
theorem w64Addr_newBase_of_postIndexed (k : Nat) (rn rt : Fin 32) (imm9 : BitVec 9) (s : State) :
    (w64Addr k ⟨rn, rt, .signed imm9 1⟩ s).newBase.isSome = true :=
  resolveSingle_newBase_isSome ..

/-- Index 1 is the post-indexed form of a pair (48_w64.md R580). -/
theorem pairAddr_newBase_of_postIndexed {f : W64.LSP} (hidx : f.idx = 1) (s : State) :
    (pairAddr f s).newBase.isSome = true := by
  rw [pairAddr, resolveSingle_newBase_isSome, hidx]
  rfl

/-- A well-formed vector transfer excludes `P = 0, W = 0` (30_encoding.md R114). -/
theorem vls_w_of_postIndexed {f : F32.VLS} (hwf : f.wf = true) (hp : f.p = false) : f.w = true := by
  obtain ⟨-, hindex⟩ := Bool.and_eq_true_iff.mp hwf
  simpa [vectorIndexOk, hp] using hindex

theorem vlsAddr_newBase_of_postIndexed {f : F32.VLS} (hwf : f.wf = true) (hp : f.p = false) (s : State) :
    (vlsAddr f s).newBase.isSome = true := by
  rw [vlsAddr, resolveSingle_newBase_isSome, vls_w_of_postIndexed hwf hp]

/-- Settles O21: the integer sum is `resolveSingle_eq`, and each post-indexed format writes back by its own rule. -/
theorem singleAddresses : Obligations.SingleAddresses := by
  refine ⟨fun w base off add index wback => ?sum, fun s => ⟨?f32, ?w64, ?pair, ?vector⟩⟩
  case sum =>
    rw [resolveSingle_eq]
    cases add <;> rfl
  case f32 => exact fun _ hp => SingleAddr.newBase_of_postIndexed hp s
  case w64 => exact fun k rn rt imm9 => w64Addr_newBase_of_postIndexed k rn rt imm9 s
  case pair => exact fun _ hidx => pairAddr_newBase_of_postIndexed hidx s
  case vector => exact fun _ hwf hp => vlsAddr_newBase_of_postIndexed hwf hp s

end Sys2Proof.Machine
end

section
/-! PROOFS. Words as lists of fields (30_encoding.md): a field of a packed word is read back where the list places it.
The three decode-encode statements pack each format once and read its operands and its selecting bits from the list. -/

namespace Sys2Proof

/-- The word of some fields, each with its width, the lowest first. -/
def packed : List (Nat × Nat) → Nat
  | [] => 0
  | (n, v) :: fs => v % 2 ^ n + 2 ^ n * packed fs

/-- The width of a packed word. -/
def packedWidth (fs : List (Nat × Nat)) : Nat := (fs.map Prod.fst).sum

theorem packed_lt (fs : List (Nat × Nat)) : packed fs < 2 ^ packedWidth fs := by
  induction fs with
  | nil => simp [packed, packedWidth]
  | cons p fs ih =>
    obtain ⟨n, v⟩ := p
    have hv : v % 2 ^ n < 2 ^ n := Nat.mod_lt _ (Nat.two_pow_pos n)
    have hrest : 2 ^ n * (packed fs + 1) ≤ 2 ^ n * 2 ^ packedWidth fs := Nat.mul_le_mul_left _ ih
    have hwidth : packedWidth ((n, v) :: fs) = n + packedWidth fs := by simp [packedWidth]
    rw [packed, hwidth, pow_add]
    rw [Nat.mul_add, Nat.mul_one] at hrest
    omega

theorem toNat_mod_two (b : Bool) : b.toNat % 2 ^ 1 = b.toNat := Nat.mod_eq_of_lt b.toNat_lt

/-! ### A field past the lowest entry is a field of the rest -/

@[simp] theorem fld_packed_past {n lo : Nat} (h : n ≤ lo) (v k : Nat) (fs : List (Nat × Nat)) :
    fld (packed ((n, v) :: fs)) lo k = fld (packed fs) (lo - n) k := by
  have hv : v % 2 ^ n < 2 ^ n := Nat.mod_lt _ (Nat.two_pow_pos n)
  have hlo : 2 ^ lo = 2 ^ n * 2 ^ (lo - n) := by rw [← pow_add, Nat.add_sub_cancel' h]
  rw [fld, packed, hlo, ← Nat.div_div_eq_div_mul, Nat.add_mul_div_left _ _ (Nat.two_pow_pos n),
    Nat.div_eq_of_lt hv, Nat.zero_add, fld]

/-- A field inside the lowest entry. -/
@[simp] theorem fld_packed_inside {n lo k : Nat} (h : lo + k ≤ n) (v : Nat) (fs : List (Nat × Nat)) :
    fld (packed ((n, v) :: fs)) lo k = v / 2 ^ lo % 2 ^ k := by
  have hn : 2 ^ n = 2 ^ lo * (2 ^ k * 2 ^ (n - lo - k)) := by rw [← pow_add, ← pow_add]; congr 1; omega
  rw [fld, packed]
  conv_lhs => rw [hn, Nat.mul_assoc, Nat.add_mul_div_left _ _ (Nat.two_pow_pos lo), Nat.mod_mul_right_div_self,
    Nat.mul_assoc, Nat.add_mul_mod_self_left, Nat.mod_mul_right_mod]

theorem immAt_eq_fld (n w lo : Nat) : immAt n w lo = BitVec.ofNat n (fld w lo n) := by
  apply BitVec.eq_of_toNat_eq
  simp [immAt, fld]

theorem bitAt_eq_fld (w lo : Nat) : bitAt w lo = decide (fld w lo 1 = 1) := by simp [bitAt, fld]

theorem shiftAt_eq_fld (w lo : Nat) : shiftAt w lo = ShiftKind.ofCode (fld w lo 2) := by simp [shiftAt, fld]

@[simp] theorem immAt_packed_past {n lo : Nat} (h : n ≤ lo) (v k : Nat) (fs : List (Nat × Nat)) :
    immAt k (packed ((n, v) :: fs)) lo = immAt k (packed fs) (lo - n) := by
  rw [immAt_eq_fld, fld_packed_past h, immAt_eq_fld]

@[simp] theorem bitAt_packed_past {n lo : Nat} (h : n ≤ lo) (v : Nat) (fs : List (Nat × Nat)) :
    bitAt (packed ((n, v) :: fs)) lo = bitAt (packed fs) (lo - n) := by
  rw [bitAt_eq_fld, fld_packed_past h, bitAt_eq_fld]

@[simp] theorem shiftAt_packed_past {n lo : Nat} (h : n ≤ lo) (v : Nat) (fs : List (Nat × Nat)) :
    shiftAt (packed ((n, v) :: fs)) lo = shiftAt (packed fs) (lo - n) := by
  rw [shiftAt_eq_fld, fld_packed_past h, shiftAt_eq_fld]

@[simp] theorem reg3_packed_past {n lo : Nat} (h : n ≤ lo) (v : Nat) (fs : List (Nat × Nat)) :
    reg3 (packed ((n, v) :: fs)) lo = reg3 (packed fs) (lo - n) :=
  Fin.ext (fld_packed_past h v 3 fs)

@[simp] theorem reg4_packed_past {n lo : Nat} (h : n ≤ lo) (v : Nat) (fs : List (Nat × Nat)) :
    reg4 (packed ((n, v) :: fs)) lo = reg4 (packed fs) (lo - n) :=
  Fin.ext (fld_packed_past h v 4 fs)

@[simp] theorem reg5_packed_past {n lo : Nat} (h : n ≤ lo) (v : Nat) (fs : List (Nat × Nat)) :
    reg5 (packed ((n, v) :: fs)) lo = reg5 (packed fs) (lo - n) :=
  Fin.ext (fld_packed_past h v 5 fs)

/-! ### The lowest entry is read back as it was -/

theorem fld_packed_lowest (n v : Nat) (fs : List (Nat × Nat)) : fld (packed ((n, v) :: fs)) 0 n = v % 2 ^ n := by
  rw [fld_packed_inside (by omega), pow_zero, Nat.div_one]

@[simp] theorem immAt_packed_lowest {n : Nat} (v : BitVec n) (fs : List (Nat × Nat)) :
    immAt n (packed ((n, v.toNat) :: fs)) 0 = v := by
  rw [immAt_eq_fld, fld_packed_lowest, Nat.mod_eq_of_lt v.isLt, BitVec.ofNat_toNat, BitVec.setWidth_eq]

@[simp] theorem bitAt_packed_lowest (b : Bool) (fs : List (Nat × Nat)) : bitAt (packed ((1, b.toNat) :: fs)) 0 = b := by
  rw [bitAt_eq_fld, fld_packed_lowest]
  cases b <;> rfl

@[simp] theorem shiftAt_packed_lowest (k : ShiftKind) (fs : List (Nat × Nat)) :
    shiftAt (packed ((2, k.code) :: fs)) 0 = k := by
  rw [shiftAt_eq_fld, fld_packed_lowest]
  cases k <;> rfl

@[simp] theorem reg3_packed_lowest (i : Fin 8) (fs : List (Nat × Nat)) : reg3 (packed ((3, i.val) :: fs)) 0 = i :=
  Fin.ext ((fld_packed_lowest ..).trans (Nat.mod_eq_of_lt i.isLt))

@[simp] theorem reg4_packed_lowest (i : Fin 16) (fs : List (Nat × Nat)) : reg4 (packed ((4, i.val) :: fs)) 0 = i :=
  Fin.ext ((fld_packed_lowest ..).trans (Nat.mod_eq_of_lt i.isLt))

@[simp] theorem reg5_packed_lowest (i : Fin 32) (fs : List (Nat × Nat)) : reg5 (packed ((5, i.val) :: fs)) 0 = i :=
  Fin.ext ((fld_packed_lowest ..).trans (Nat.mod_eq_of_lt i.isLt))

end Sys2Proof
end

section
/-! PROOFS. Decoding an encoded C16 instruction (30_encoding.md R116 to R121): each format's fields, lowest first, and the
round trip of the instructions of that format from the selecting bits that its decoder row reads. -/

namespace Sys2Proof

/-- The word of an instruction has the width of its mode and decodes to the instruction. -/
def RoundTrips (m : Mode) (i : Instr) : Prop := encode i < 2 ^ (8 * m.instrBytes) ∧ decodeWord m (encode i) = .ok i

theorem roundTrips_c16 {F : Type} {f : F} {mk : F → Instr} {ofWord : Nat → F} {fs : List (Nat × Nat)}
    (hword : encode (mk f) = packed fs) (hwidth : packedWidth fs = 16) (hof : ofWord (packed fs) = f)
    (hdecode : decodeC16 (packed fs) = some (mk (ofWord (packed fs)))) : RoundTrips .c16 (mk f) := by
  rw [hof] at hdecode
  refine ⟨?_, by simp only [hword, decodeWord, hdecode]⟩
  rw [hword]
  exact lt_of_lt_of_eq (packed_lt fs) (by rw [hwidth]; rfl)

/-! ### Rows whose selecting bits cross the top five -/

theorem decodeC16_of_lsr {w : Nat} (h : fld w 12 4 = 5) : decodeC16 w = decodeC16Lsr w := by
  have htop : fld w 11 5 = 10 ∨ fld w 11 5 = 11 := by simp only [fld] at *; omega
  rcases htop with htop | htop <;> simp [decodeC16, htop]

theorem decodeC16_of_misc {w hi : Nat} (h : fld w 8 8 = hi) (hhi : hi / 16 = 11) :
    decodeC16 w = decodeC16Misc w := by
  have htop : fld w 11 5 = 22 ∨ fld w 11 5 = 23 := by simp only [fld] at *; omega
  rcases htop with htop | htop <;> simp [decodeC16, htop]

theorem decodeC16_of_push {w : Nat} (h : fld w 9 7 = 0x5A) : decodeC16 w = some (.c16PushPp (.ofWord w)) := by
  have hspa : fld w 8 8 ≠ 0xB0 := by simp only [fld] at *; omega
  have htop : fld w 11 5 = 22 := by simp only [fld] at *; omega
  simp [decodeC16, htop, decodeC16Misc, hspa, h]

theorem decodeC16_of_pop {w : Nat} (h : fld w 9 7 = 0x5E) : decodeC16 w = some (.c16PopPp (.ofWord w)) := by
  have hspa : fld w 8 8 ≠ 0xB0 := by simp only [fld] at *; omega
  have htop : fld w 11 5 = 23 := by simp only [fld] at *; omega
  simp [decodeC16, htop, decodeC16Misc, hspa, h]

theorem decodeC16_of_it {w : Nat} (h : fld w 8 8 = 0xBF) (hmask : fld w 0 4 ≠ 0) :
    decodeC16 w = some (.c16ItIt (.ofWord w)) := by
  have hpp : fld w 9 7 = 0x5F := by simp only [fld] at *; omega
  simp [decodeC16_of_misc h (by decide), decodeC16Misc, h, hpp, hmask]

theorem decodeC16_of_bc {w : Nat} (h : fld w 12 4 = 13) (hcond : fld w 8 4 < 14) :
    decodeC16 w = some (.c16BBc (.ofWord w)) := by
  have htop : fld w 11 5 = 26 ∨ fld w 11 5 = 27 := by simp only [fld] at *; omega
  rcases htop with htop | htop <;> simp [decodeC16, htop, hcond]

/-! ### Formats selected by the top five bits -/

def C16.SHI.fields (f : C16.SHI) (op : Nat) : List (Nat × Nat) :=
  [(3, f.rd), (3, f.rm), (5, f.imm5.toNat), (5, op)]

theorem C16.SHI.roundTrips {f : C16.SHI} {mk : C16.SHI → Instr} {op : Nat} (hop : op < 32)
    (hword : encode (mk f) = op * 2 ^ 11 + f.toWord)
    (hdecode : ∀ w, fld w 11 5 = op → decodeC16 w = some (mk (.ofWord w))) :
    RoundTrips .c16 (mk f) :=
  roundTrips_c16 (fs := f.fields op) (hword.trans (by simp only [toWord, packed, fields]; omega)) rfl
    (by simp [ofWord, fields])
    (hdecode _ (by simpa [fields] using Nat.mod_eq_of_lt hop))

def C16.I8.fields (f : C16.I8) (op : Nat) : List (Nat × Nat) :=
  [(8, f.imm8.toNat), (3, f.rd), (5, op)]

theorem C16.I8.roundTrips {f : C16.I8} {mk : C16.I8 → Instr} {op : Nat} (hop : op < 32)
    (hword : encode (mk f) = op * 2 ^ 11 + f.toWord)
    (hdecode : ∀ w, fld w 11 5 = op → decodeC16 w = some (mk (.ofWord w))) :
    RoundTrips .c16 (mk f) :=
  roundTrips_c16 (fs := f.fields op) (hword.trans (by simp only [toWord, packed, fields]; omega)) rfl
    (by simp [ofWord, fields])
    (hdecode _ (by simpa [fields] using Nat.mod_eq_of_lt hop))

def C16.LIT.fields (f : C16.LIT) (op : Nat) : List (Nat × Nat) :=
  [(8, f.imm8.toNat), (3, f.rd), (5, op)]

theorem C16.LIT.roundTrips {f : C16.LIT} {mk : C16.LIT → Instr} {op : Nat} (hop : op < 32)
    (hword : encode (mk f) = op * 2 ^ 11 + f.toWord)
    (hdecode : ∀ w, fld w 11 5 = op → decodeC16 w = some (mk (.ofWord w))) :
    RoundTrips .c16 (mk f) :=
  roundTrips_c16 (fs := f.fields op) (hword.trans (by simp only [toWord, packed, fields]; omega)) rfl
    (by simp [ofWord, fields])
    (hdecode _ (by simpa [fields] using Nat.mod_eq_of_lt hop))

def C16.SPR.fields (f : C16.SPR) (op : Nat) : List (Nat × Nat) :=
  [(8, f.imm8.toNat), (3, f.rd), (5, op)]

theorem C16.SPR.roundTrips {f : C16.SPR} {mk : C16.SPR → Instr} {op : Nat} (hop : op < 32)
    (hword : encode (mk f) = op * 2 ^ 11 + f.toWord)
    (hdecode : ∀ w, fld w 11 5 = op → decodeC16 w = some (mk (.ofWord w))) :
    RoundTrips .c16 (mk f) :=
  roundTrips_c16 (fs := f.fields op) (hword.trans (by simp only [toWord, packed, fields]; omega)) rfl
    (by simp [ofWord, fields])
    (hdecode _ (by simpa [fields] using Nat.mod_eq_of_lt hop))

def C16.ADR.fields (f : C16.ADR) (op : Nat) : List (Nat × Nat) :=
  [(8, f.imm8.toNat), (3, f.rd), (5, op)]

theorem C16.ADR.roundTrips {f : C16.ADR} {mk : C16.ADR → Instr} {op : Nat} (hop : op < 32)
    (hword : encode (mk f) = op * 2 ^ 11 + f.toWord)
    (hdecode : ∀ w, fld w 11 5 = op → decodeC16 w = some (mk (.ofWord w))) :
    RoundTrips .c16 (mk f) :=
  roundTrips_c16 (fs := f.fields op) (hword.trans (by simp only [toWord, packed, fields]; omega)) rfl
    (by simp [ofWord, fields])
    (hdecode _ (by simpa [fields] using Nat.mod_eq_of_lt hop))

def C16.LSI.fields (f : C16.LSI) (op : Nat) : List (Nat × Nat) :=
  [(3, f.rd), (3, f.rn), (5, f.imm5.toNat), (5, op)]

theorem C16.LSI.roundTrips {f : C16.LSI} {mk : C16.LSI → Instr} {op : Nat} (hop : op < 32)
    (hword : encode (mk f) = op * 2 ^ 11 + f.toWord)
    (hdecode : ∀ w, fld w 11 5 = op → decodeC16 w = some (mk (.ofWord w))) :
    RoundTrips .c16 (mk f) :=
  roundTrips_c16 (fs := f.fields op) (hword.trans (by simp only [toWord, packed, fields]; omega)) rfl
    (by simp [ofWord, fields])
    (hdecode _ (by simpa [fields] using Nat.mod_eq_of_lt hop))

def C16.LSM.fields (f : C16.LSM) (op : Nat) : List (Nat × Nat) :=
  [(8, f.reglist.toNat), (3, f.rn), (5, op)]

theorem C16.LSM.roundTrips {f : C16.LSM} {mk : C16.LSM → Instr} {op : Nat} (hop : op < 32)
    (hword : encode (mk f) = op * 2 ^ 11 + f.toWord)
    (hdecode : ∀ w, fld w 11 5 = op → decodeC16 w = some (mk (.ofWord w))) :
    RoundTrips .c16 (mk f) :=
  roundTrips_c16 (fs := f.fields op) (hword.trans (by simp only [toWord, packed, fields]; omega)) rfl
    (by simp [ofWord, fields])
    (hdecode _ (by simpa [fields] using Nat.mod_eq_of_lt hop))

def C16.B.fields (f : C16.B) (op : Nat) : List (Nat × Nat) :=
  [(11, f.imm11.toNat), (5, op)]

theorem C16.B.roundTrips {f : C16.B} {mk : C16.B → Instr} {op : Nat} (hop : op < 32)
    (hword : encode (mk f) = op * 2 ^ 11 + f.toWord)
    (hdecode : ∀ w, fld w 11 5 = op → decodeC16 w = some (mk (.ofWord w))) :
    RoundTrips .c16 (mk f) :=
  roundTrips_c16 (fs := f.fields op) (hword.trans (by simp only [toWord, packed, fields]; omega)) rfl
    (by simp [ofWord, fields])
    (hdecode _ (by simpa [fields] using Nat.mod_eq_of_lt hop))

def C16.BL1.fields (f : C16.BL1) (op : Nat) : List (Nat × Nat) :=
  [(11, f.imm11.toNat), (5, op)]

theorem C16.BL1.roundTrips {f : C16.BL1} {mk : C16.BL1 → Instr} {op : Nat} (hop : op < 32)
    (hword : encode (mk f) = op * 2 ^ 11 + f.toWord)
    (hdecode : ∀ w, fld w 11 5 = op → decodeC16 w = some (mk (.ofWord w))) :
    RoundTrips .c16 (mk f) :=
  roundTrips_c16 (fs := f.fields op) (hword.trans (by simp only [toWord, packed, fields]; omega)) rfl
    (by simp [ofWord, fields])
    (hdecode _ (by simpa [fields] using Nat.mod_eq_of_lt hop))

def C16.BL2.fields (f : C16.BL2) (op : Nat) : List (Nat × Nat) :=
  [(11, f.imm11.toNat), (5, op)]

theorem C16.BL2.roundTrips {f : C16.BL2} {mk : C16.BL2 → Instr} {op : Nat} (hop : op < 32)
    (hword : encode (mk f) = op * 2 ^ 11 + f.toWord)
    (hdecode : ∀ w, fld w 11 5 = op → decodeC16 w = some (mk (.ofWord w))) :
    RoundTrips .c16 (mk f) :=
  roundTrips_c16 (fs := f.fields op) (hword.trans (by simp only [toWord, packed, fields]; omega)) rfl
    (by simp [ofWord, fields])
    (hdecode _ (by simpa [fields] using Nat.mod_eq_of_lt hop))

def C16.BL2X.fields (f : C16.BL2X) : List (Nat × Nat) :=
  [(1, 0), (10, f.imm10.toNat), (5, 29)]

theorem C16.BL2X.roundTrips {f : C16.BL2X} {mk : C16.BL2X → Instr}
    (hword : encode (mk f) = 29 * 2 ^ 11 + f.toWord)
    (hdecode : ∀ w, fld w 11 5 = 29 → fld w 0 1 = 0 → decodeC16 w = some (mk (.ofWord w))) :
    RoundTrips .c16 (mk f) :=
  roundTrips_c16 (fs := f.fields) (hword.trans (by simp only [toWord, packed, fields]; omega)) rfl
    (by simp [ofWord, fields])
    (hdecode _ (by simp [fields]) (by simp [fields]))

/-! ### Formats with further selecting bits -/

def C16.AS3.fields (f : C16.AS3) (op : Nat) : List (Nat × Nat) :=
  [(3, f.rd), (3, f.rn), (3, f.rm), (2, op), (5, 3)]

theorem C16.AS3.roundTrips {f : C16.AS3} {mk : C16.AS3 → Instr} {op : Nat} (hop : op < 4)
    (hword : encode (mk f) = 3 * 2 ^ 11 + op * 2 ^ 9 + f.toWord)
    (hdecode : ∀ w, fld w 11 5 = 3 → fld w 9 2 = op → decodeC16 w = some (mk (.ofWord w))) :
    RoundTrips .c16 (mk f) :=
  roundTrips_c16 (fs := f.fields op) (hword.trans (by simp only [toWord, packed, fields]; omega)) rfl
    (by simp [ofWord, fields])
    (hdecode _ (by simp [fields]) (by simpa [fields] using Nat.mod_eq_of_lt hop))

def C16.AS3I.fields (f : C16.AS3I) (op : Nat) : List (Nat × Nat) :=
  [(3, f.rd), (3, f.rn), (3, f.imm3.toNat), (2, op), (5, 3)]

theorem C16.AS3I.roundTrips {f : C16.AS3I} {mk : C16.AS3I → Instr} {op : Nat} (hop : op < 4)
    (hword : encode (mk f) = 3 * 2 ^ 11 + op * 2 ^ 9 + f.toWord)
    (hdecode : ∀ w, fld w 11 5 = 3 → fld w 9 2 = op → decodeC16 w = some (mk (.ofWord w))) :
    RoundTrips .c16 (mk f) :=
  roundTrips_c16 (fs := f.fields op) (hword.trans (by simp only [toWord, packed, fields]; omega)) rfl
    (by simp [ofWord, fields])
    (hdecode _ (by simp [fields]) (by simpa [fields] using Nat.mod_eq_of_lt hop))

def C16.ALU.fields (f : C16.ALU) (op : Nat) : List (Nat × Nat) :=
  [(3, f.rdn), (3, f.rm), (4, op), (1, 0), (5, 8)]

theorem C16.ALU.roundTrips {f : C16.ALU} {mk : C16.ALU → Instr} {op : Nat} (hop : op < 16)
    (hword : encode (mk f) = 8 * 2 ^ 11 + op * 2 ^ 6 + f.toWord)
    (hdecode : ∀ w, fld w 11 5 = 8 → fld w 10 1 = 0 → fld w 6 4 = op → decodeC16 w = some (mk (.ofWord w))) :
    RoundTrips .c16 (mk f) :=
  roundTrips_c16 (fs := f.fields op) (hword.trans (by simp only [toWord, packed, fields]; omega)) rfl
    (by simp [ofWord, fields])
    (hdecode _ (by simp [fields]) (by simp [fields]) (by simpa [fields] using Nat.mod_eq_of_lt hop))

def C16.HI.fields (f : C16.HI) (op : Nat) : List (Nat × Nat) :=
  [(3, f.d.val % 8), (4, f.rm), (1, f.d.val / 8), (2, op), (1, 1), (5, 8)]

theorem C16.HI.roundTrips {f : C16.HI} {mk : C16.HI → Instr} {op : Nat} (hop : op < 4)
    (hword : encode (mk f) = 8 * 2 ^ 11 + 2 ^ 10 + op * 2 ^ 8 + f.toWord)
    (hdecode : ∀ w, fld w 11 5 = 8 → fld w 10 1 = 1 → fld w 8 2 = op → decodeC16 w = some (mk (.ofWord w))) :
    RoundTrips .c16 (mk f) :=
  roundTrips_c16 (fs := f.fields op) (hword.trans (by simp only [toWord, packed, fields]; omega)) rfl
    (by obtain ⟨rm, d⟩ := f; simp [ofWord, fields, Fin.ext_iff]; omega)
    (hdecode _ (by simp [fields]) (by simp [fields]) (by simpa [fields] using Nat.mod_eq_of_lt hop))

def C16.BXR.fields (f : C16.BXR) (link : Nat) : List (Nat × Nat) :=
  [(3, 0), (4, f.rm), (1, link), (2, 3), (1, 1), (5, 8)]

theorem C16.BXR.roundTrips {f : C16.BXR} {mk : C16.BXR → Instr} {link : Nat} (hlink : link < 2)
    (hword : encode (mk f) = 8 * 2 ^ 11 + 7 * 2 ^ 8 + link * 2 ^ 7 + f.toWord)
    (hdecode : ∀ w, fld w 11 5 = 8 → fld w 10 1 = 1 → fld w 8 2 = 3 → fld w 7 1 = link → decodeC16 w = some (mk (.ofWord w))) :
    RoundTrips .c16 (mk f) :=
  roundTrips_c16 (fs := f.fields link) (hword.trans (by simp only [toWord, packed, fields]; omega)) rfl
    (by simp [ofWord, fields])
    (hdecode _ (by simp [fields]) (by simp [fields]) (by simp [fields]) (by simpa [fields] using Nat.mod_eq_of_lt hlink))

def C16.LSR.fields (f : C16.LSR) (op : Nat) : List (Nat × Nat) :=
  [(3, f.rd), (3, f.rn), (3, f.rm), (3, op), (4, 5)]

theorem C16.LSR.roundTrips {f : C16.LSR} {mk : C16.LSR → Instr} {op : Nat} (hop : op < 8)
    (hword : encode (mk f) = 10 * 2 ^ 11 + op * 2 ^ 9 + f.toWord)
    (hdecode : ∀ w, fld w 12 4 = 5 → fld w 9 3 = op → decodeC16 w = some (mk (.ofWord w))) :
    RoundTrips .c16 (mk f) :=
  roundTrips_c16 (fs := f.fields op) (hword.trans (by simp only [toWord, packed, fields]; omega)) rfl
    (by simp [ofWord, fields])
    (hdecode _ (by simp [fields]) (by simpa [fields] using Nat.mod_eq_of_lt hop))

def C16.SPA.fields (f : C16.SPA) (sub : Nat) : List (Nat × Nat) :=
  [(7, f.imm7.toNat), (1, sub), (8, 0xB0)]

theorem C16.SPA.roundTrips {f : C16.SPA} {mk : C16.SPA → Instr} {sub : Nat} (hsub : sub < 2)
    (hword : encode (mk f) = 0xB0 * 2 ^ 8 + sub * 2 ^ 7 + f.toWord)
    (hdecode : ∀ w, fld w 8 8 = 0xB0 → fld w 7 1 = sub → decodeC16 w = some (mk (.ofWord w))) :
    RoundTrips .c16 (mk f) :=
  roundTrips_c16 (fs := f.fields sub) (hword.trans (by simp only [toWord, packed, fields]; omega)) rfl
    (by simp [ofWord, fields])
    (hdecode _ (by simp [fields]) (by simpa [fields] using Nat.mod_eq_of_lt hsub))

def C16.PP.fields (f : C16.PP) (op : Nat) : List (Nat × Nat) :=
  [(8, f.reglist.toNat), (1, f.r.toNat), (7, op)]

theorem C16.PP.roundTrips {f : C16.PP} {mk : C16.PP → Instr} {op : Nat} (hop : op < 128)
    (hword : encode (mk f) = op * 2 ^ 9 + f.toWord)
    (hdecode : ∀ w, fld w 9 7 = op → decodeC16 w = some (mk (.ofWord w))) :
    RoundTrips .c16 (mk f) :=
  roundTrips_c16 (fs := f.fields op) (hword.trans (by simp only [toWord, packed, fields, toNat_mod_two]; omega)) rfl
    (by simp [ofWord, fields])
    (hdecode _ (by simpa [fields] using Nat.mod_eq_of_lt hop))

def C16.IT.fields (f : C16.IT) : List (Nat × Nat) :=
  [(4, f.mask.toNat), (4, f.firstcond.toNat), (8, 0xBF)]

theorem C16.IT.roundTrips {f : C16.IT} {mk : C16.IT → Instr}
    (hword : encode (mk f) = 0xBF * 2 ^ 8 + f.toWord)
    (hdecode : ∀ w, fld w 8 8 = 0xBF → fld w 0 4 = f.mask.toNat → decodeC16 w = some (mk (.ofWord w))) :
    RoundTrips .c16 (mk f) :=
  roundTrips_c16 (fs := f.fields) (hword.trans (by simp only [toWord, packed, fields]; omega)) rfl
    (by simp [ofWord, fields])
    (hdecode _ (by simp [fields]) (by simp [fields]; omega))

def C16.BC.fields (f : C16.BC) : List (Nat × Nat) :=
  [(8, f.imm8.toNat), (4, f.cond.toNat), (4, 13)]

theorem C16.BC.roundTrips {f : C16.BC} {mk : C16.BC → Instr}
    (hword : encode (mk f) = 13 * 2 ^ 12 + f.toWord)
    (hdecode : ∀ w, fld w 12 4 = 13 → fld w 8 4 = f.cond.toNat → decodeC16 w = some (mk (.ofWord w))) :
    RoundTrips .c16 (mk f) :=
  roundTrips_c16 (fs := f.fields) (hword.trans (by simp only [toWord, packed, fields]; omega)) rfl
    (by simp [ofWord, fields])
    (hdecode _ (by simp [fields]) (by simp [fields]; omega))

theorem C16.IT.mask_ne_zero (f : C16.IT) (hwf : f.wf = true) : f.mask.toNat ≠ 0 :=
  fun h => bne_iff_ne.1 hwf (BitVec.eq_of_toNat_eq h)

/-- Settles O9: every format packs its fields where the decoder reads them, and each row's selecting bits are its own. -/
theorem decodeEncodeC16 : Obligations.DecodeEncodeC16 := by
  intro i hwf hmode
  cases i with
  | c16LslsShi f => exact C16.SHI.roundTrips (mk := .c16LslsShi) (op := 0) (by decide) rfl fun w h => by simp [decodeC16, h]
  | c16LsrsShi f => exact C16.SHI.roundTrips (mk := .c16LsrsShi) (op := 1) (by decide) rfl fun w h => by simp [decodeC16, h]
  | c16AsrsShi f => exact C16.SHI.roundTrips (mk := .c16AsrsShi) (op := 2) (by decide) rfl fun w h => by simp [decodeC16, h]
  | c16AddsAs3 f => exact C16.AS3.roundTrips (mk := .c16AddsAs3) (op := 0) (by decide) rfl fun w h h9 => by simp [decodeC16, h, h9]
  | c16SubsAs3 f => exact C16.AS3.roundTrips (mk := .c16SubsAs3) (op := 1) (by decide) rfl fun w h h9 => by simp [decodeC16, h, h9]
  | c16AddsAs3i f => exact C16.AS3I.roundTrips (mk := .c16AddsAs3i) (op := 2) (by decide) rfl fun w h h9 => by simp [decodeC16, h, h9]
  | c16SubsAs3i f => exact C16.AS3I.roundTrips (mk := .c16SubsAs3i) (op := 3) (by decide) rfl fun w h h9 => by simp [decodeC16, h, h9]
  | c16MovsI8 f => exact C16.I8.roundTrips (mk := .c16MovsI8) (op := 4) (by decide) rfl fun w h => by simp [decodeC16, h]
  | c16CmpI8 f => exact C16.I8.roundTrips (mk := .c16CmpI8) (op := 5) (by decide) rfl fun w h => by simp [decodeC16, h]
  | c16AddsI8 f => exact C16.I8.roundTrips (mk := .c16AddsI8) (op := 6) (by decide) rfl fun w h => by simp [decodeC16, h]
  | c16SubsI8 f => exact C16.I8.roundTrips (mk := .c16SubsI8) (op := 7) (by decide) rfl fun w h => by simp [decodeC16, h]
  | c16AndsAlu f => exact C16.ALU.roundTrips (mk := .c16AndsAlu) (op := 0) (by decide) rfl fun w h h10 h6 => by simp [decodeC16, decodeC16Alu, h, h10, h6]
  | c16EorsAlu f => exact C16.ALU.roundTrips (mk := .c16EorsAlu) (op := 1) (by decide) rfl fun w h h10 h6 => by simp [decodeC16, decodeC16Alu, h, h10, h6]
  | c16LslsAlu f => exact C16.ALU.roundTrips (mk := .c16LslsAlu) (op := 2) (by decide) rfl fun w h h10 h6 => by simp [decodeC16, decodeC16Alu, h, h10, h6]
  | c16LsrsAlu f => exact C16.ALU.roundTrips (mk := .c16LsrsAlu) (op := 3) (by decide) rfl fun w h h10 h6 => by simp [decodeC16, decodeC16Alu, h, h10, h6]
  | c16AsrsAlu f => exact C16.ALU.roundTrips (mk := .c16AsrsAlu) (op := 4) (by decide) rfl fun w h h10 h6 => by simp [decodeC16, decodeC16Alu, h, h10, h6]
  | c16AdcsAlu f => exact C16.ALU.roundTrips (mk := .c16AdcsAlu) (op := 5) (by decide) rfl fun w h h10 h6 => by simp [decodeC16, decodeC16Alu, h, h10, h6]
  | c16SbcsAlu f => exact C16.ALU.roundTrips (mk := .c16SbcsAlu) (op := 6) (by decide) rfl fun w h h10 h6 => by simp [decodeC16, decodeC16Alu, h, h10, h6]
  | c16RorsAlu f => exact C16.ALU.roundTrips (mk := .c16RorsAlu) (op := 7) (by decide) rfl fun w h h10 h6 => by simp [decodeC16, decodeC16Alu, h, h10, h6]
  | c16TstAlu f => exact C16.ALU.roundTrips (mk := .c16TstAlu) (op := 8) (by decide) rfl fun w h h10 h6 => by simp [decodeC16, decodeC16Alu, h, h10, h6]
  | c16NegsAlu f => exact C16.ALU.roundTrips (mk := .c16NegsAlu) (op := 9) (by decide) rfl fun w h h10 h6 => by simp [decodeC16, decodeC16Alu, h, h10, h6]
  | c16CmpAlu f => exact C16.ALU.roundTrips (mk := .c16CmpAlu) (op := 10) (by decide) rfl fun w h h10 h6 => by simp [decodeC16, decodeC16Alu, h, h10, h6]
  | c16CmnAlu f => exact C16.ALU.roundTrips (mk := .c16CmnAlu) (op := 11) (by decide) rfl fun w h h10 h6 => by simp [decodeC16, decodeC16Alu, h, h10, h6]
  | c16OrrsAlu f => exact C16.ALU.roundTrips (mk := .c16OrrsAlu) (op := 12) (by decide) rfl fun w h h10 h6 => by simp [decodeC16, decodeC16Alu, h, h10, h6]
  | c16MulsAlu f => exact C16.ALU.roundTrips (mk := .c16MulsAlu) (op := 13) (by decide) rfl fun w h h10 h6 => by simp [decodeC16, decodeC16Alu, h, h10, h6]
  | c16BicsAlu f => exact C16.ALU.roundTrips (mk := .c16BicsAlu) (op := 14) (by decide) rfl fun w h h10 h6 => by simp [decodeC16, decodeC16Alu, h, h10, h6]
  | c16MvnsAlu f => exact C16.ALU.roundTrips (mk := .c16MvnsAlu) (op := 15) (by decide) rfl fun w h h10 h6 => by simp [decodeC16, decodeC16Alu, h, h10, h6]
  | c16AddHi f => exact C16.HI.roundTrips (mk := .c16AddHi) (op := 0) (by decide) rfl fun w h h10 h8 => by simp [decodeC16, decodeC16Hi, h, h10, h8]
  | c16CmpHi f => exact C16.HI.roundTrips (mk := .c16CmpHi) (op := 1) (by decide) rfl fun w h h10 h8 => by simp [decodeC16, decodeC16Hi, h, h10, h8]
  | c16MovHi f => exact C16.HI.roundTrips (mk := .c16MovHi) (op := 2) (by decide) rfl fun w h h10 h8 => by simp [decodeC16, decodeC16Hi, h, h10, h8]
  | c16BxBx f => exact C16.BXR.roundTrips (mk := .c16BxBx) (link := 0) (by decide) rfl fun w h h10 h8 h7 => by simp [decodeC16, decodeC16Hi, h, h10, h8, h7]
  | c16BlxBx f => exact C16.BXR.roundTrips (mk := .c16BlxBx) (link := 1) (by decide) rfl fun w h h10 h8 h7 => by simp [decodeC16, decodeC16Hi, h, h10, h8, h7]
  | c16LdrLit f => exact C16.LIT.roundTrips (mk := .c16LdrLit) (op := 9) (by decide) rfl fun w h => by simp [decodeC16, h]
  | c16StrLsr f => exact C16.LSR.roundTrips (mk := .c16StrLsr) (op := 0) (by decide) rfl fun w h h9 => by simp [decodeC16_of_lsr h, decodeC16Lsr, h9]
  | c16StrhLsr f => exact C16.LSR.roundTrips (mk := .c16StrhLsr) (op := 1) (by decide) rfl fun w h h9 => by simp [decodeC16_of_lsr h, decodeC16Lsr, h9]
  | c16StrbLsr f => exact C16.LSR.roundTrips (mk := .c16StrbLsr) (op := 2) (by decide) rfl fun w h h9 => by simp [decodeC16_of_lsr h, decodeC16Lsr, h9]
  | c16LdrsbLsr f => exact C16.LSR.roundTrips (mk := .c16LdrsbLsr) (op := 3) (by decide) rfl fun w h h9 => by simp [decodeC16_of_lsr h, decodeC16Lsr, h9]
  | c16LdrLsr f => exact C16.LSR.roundTrips (mk := .c16LdrLsr) (op := 4) (by decide) rfl fun w h h9 => by simp [decodeC16_of_lsr h, decodeC16Lsr, h9]
  | c16LdrhLsr f => exact C16.LSR.roundTrips (mk := .c16LdrhLsr) (op := 5) (by decide) rfl fun w h h9 => by simp [decodeC16_of_lsr h, decodeC16Lsr, h9]
  | c16LdrbLsr f => exact C16.LSR.roundTrips (mk := .c16LdrbLsr) (op := 6) (by decide) rfl fun w h h9 => by simp [decodeC16_of_lsr h, decodeC16Lsr, h9]
  | c16LdrshLsr f => exact C16.LSR.roundTrips (mk := .c16LdrshLsr) (op := 7) (by decide) rfl fun w h h9 => by simp [decodeC16_of_lsr h, decodeC16Lsr, h9]
  | c16StrLsi f => exact C16.LSI.roundTrips (mk := .c16StrLsi) (op := 12) (by decide) rfl fun w h => by simp [decodeC16, h]
  | c16LdrLsi f => exact C16.LSI.roundTrips (mk := .c16LdrLsi) (op := 13) (by decide) rfl fun w h => by simp [decodeC16, h]
  | c16StrbLsi f => exact C16.LSI.roundTrips (mk := .c16StrbLsi) (op := 14) (by decide) rfl fun w h => by simp [decodeC16, h]
  | c16LdrbLsi f => exact C16.LSI.roundTrips (mk := .c16LdrbLsi) (op := 15) (by decide) rfl fun w h => by simp [decodeC16, h]
  | c16StrhLsi f => exact C16.LSI.roundTrips (mk := .c16StrhLsi) (op := 16) (by decide) rfl fun w h => by simp [decodeC16, h]
  | c16LdrhLsi f => exact C16.LSI.roundTrips (mk := .c16LdrhLsi) (op := 17) (by decide) rfl fun w h => by simp [decodeC16, h]
  | c16StrSpr f => exact C16.SPR.roundTrips (mk := .c16StrSpr) (op := 18) (by decide) rfl fun w h => by simp [decodeC16, h]
  | c16LdrSpr f => exact C16.SPR.roundTrips (mk := .c16LdrSpr) (op := 19) (by decide) rfl fun w h => by simp [decodeC16, h]
  | c16AdrAdr f => exact C16.ADR.roundTrips (mk := .c16AdrAdr) (op := 20) (by decide) rfl fun w h => by simp [decodeC16, h]
  | c16AddAdr f => exact C16.ADR.roundTrips (mk := .c16AddAdr) (op := 21) (by decide) rfl fun w h => by simp [decodeC16, h]
  | c16AddSpa f => exact C16.SPA.roundTrips (mk := .c16AddSpa) (sub := 0) (by decide) rfl fun w h h7 => by simp [decodeC16_of_misc h (by decide), decodeC16Misc, h, h7]
  | c16SubSpa f => exact C16.SPA.roundTrips (mk := .c16SubSpa) (sub := 1) (by decide) rfl fun w h h7 => by simp [decodeC16_of_misc h (by decide), decodeC16Misc, h, h7]
  | c16PushPp f => exact C16.PP.roundTrips (mk := .c16PushPp) (op := 90) (by decide) rfl fun w h => by exact decodeC16_of_push h
  | c16PopPp f => exact C16.PP.roundTrips (mk := .c16PopPp) (op := 94) (by decide) rfl fun w h => by exact decodeC16_of_pop h
  | c16NopHint => exact ⟨by decide, by decide⟩
  | c16ItIt f => exact C16.IT.roundTrips (mk := .c16ItIt) rfl fun w h h0 => by exact decodeC16_of_it h (h0.trans_ne (f.mask_ne_zero hwf))
  | c16StmiaLsm f => exact C16.LSM.roundTrips (mk := .c16StmiaLsm) (op := 24) (by decide) rfl fun w h => by simp [decodeC16, h]
  | c16LdmiaLsm f => exact C16.LSM.roundTrips (mk := .c16LdmiaLsm) (op := 25) (by decide) rfl fun w h => by simp [decodeC16, h]
  | c16BBc f => exact C16.BC.roundTrips (mk := .c16BBc) rfl fun w h h8 => by exact decodeC16_of_bc h (h8.trans_lt (of_decide_eq_true hwf))
  | c16BB f => exact C16.B.roundTrips (mk := .c16BB) (op := 28) (by decide) rfl fun w h => by simp [decodeC16, h]
  | c16BlxBl2 f => exact C16.BL2X.roundTrips (mk := .c16BlxBl2) rfl fun w h h0 => by simp [decodeC16, h, h0]
  | c16BlBl1 f => exact C16.BL1.roundTrips (mk := .c16BlBl1) (op := 30) (by decide) rfl fun w h => by simp [decodeC16, h]
  | c16BlBl2 f => exact C16.BL2.roundTrips (mk := .c16BlBl2) (op := 31) (by decide) rfl fun w h => by simp [decodeC16, h]
  | _ => exact nomatch hmode

end Sys2Proof
end

section
/-! PROOFS. Decoding an encoded F32 instruction (30_encoding.md R103 to R114), in the manner of the C16 formats. -/

namespace Sys2Proof

theorem roundTrips_f32 {F : Type} {f : F} {mk : F → Instr} {ofWord : Nat → F} {fs : List (Nat × Nat)}
    (hword : encode (mk f) = packed fs) (hwidth : packedWidth fs = 32) (hof : ofWord (packed fs) = f)
    (hdecode : decodeF32 (packed fs) = some (mk (ofWord (packed fs)))) : RoundTrips .f32 (mk f) := by
  rw [hof] at hdecode
  refine ⟨?_, by simp only [hword, decodeWord, hdecode]⟩
  rw [hword]
  exact lt_of_lt_of_eq (packed_lt fs) (by rw [hwidth]; rfl)

theorem condOk_field {c : Cond} (h : condOk c = true) : c.toNat % 16 ≠ 15 := by
  rw [Nat.mod_eq_of_lt c.isLt]
  exact fun e => bne_iff_ne.1 h (BitVec.eq_of_toNat_eq e)

theorem indexOk_field {p w : Bool} (h : indexOk p w = true) : ¬(p.toNat % 2 = 0 ∧ w.toNat % 2 = 1) := by
  revert p w
  decide

theorem vectorIndexOk_field {p w : Bool} (h : vectorIndexOk p w = true) : ¬(p.toNat % 2 = 0 ∧ w.toNat % 2 = 0) := by
  revert p w
  decide

theorem code_mod (k : ShiftKind) : k.code % 2 ^ 2 = k.code := by cases k <;> rfl

/-! ### Data processing: three operand forms, one word layout above them -/

/-- The low twelve bits of an operand form. -/
def F32.Op2.fields : F32.Op2 → List (Nat × Nat)
  | .imm rot imm8 => [(8, imm8.toNat), (4, rot.toNat)]
  | .reg shamt stype rm => [(4, rm), (1, 0), (2, stype.code), (5, shamt.toNat)]
  | .regShift rs stype rm => [(4, rm), (1, 1), (2, stype.code), (1, 0), (4, rs)]

/-- `I[27:25]` of an operand form. -/
def F32.Op2.opClass : F32.Op2 → Nat
  | .imm .. => 1
  | _ => 0

/-- The word of an operand form below the fields `hi`. -/
def F32.Op2.fieldsBelow (o : F32.Op2) (hi : Nat → List (Nat × Nat)) : List (Nat × Nat) := o.fields ++ hi o.opClass

theorem decodeF32_of_dp {w : Nat} (hcond : fld w 28 4 ≠ 15)
    (hclass : fld w 25 3 = 1 ∨ fld w 25 3 = 0 ∧ ¬(fld w 7 1 = 1 ∧ fld w 4 1 = 1))
    (hmisc : ¬(fld w 23 2 = 2 ∧ fld w 20 1 = 0)) : decodeF32 w = decodeF32Dp w := by
  rcases hclass with hclass | ⟨hclass, hmul⟩
  · simp only [decodeF32, if_neg hcond, hclass, decodeF32Class1, if_neg hmisc]
  · simp only [decodeF32, if_neg hcond, hclass, decodeF32Class0, if_neg hmul, if_neg hmisc]

def F32.DP.fields (f : F32.DP) (op : Nat) : List (Nat × Nat) :=
  f.op2.fieldsBelow fun c => [(4, f.rd), (4, f.rn), (1, f.s.toNat), (4, op), (3, c), (4, f.cond.toNat)]

theorem F32.DP.roundTrips {f : F32.DP} {mk : F32.DP → Instr} {op : Nat} (hcond : condOk f.cond = true)
    (hop : op < 16) (hmisc : op / 4 ≠ 2) (hword : encode (mk f) = op * 2 ^ 21 + f.toWord)
    (hdecode : ∀ w, fld w 21 4 = op → decodeF32Dp w = some (mk (.ofWord w))) : RoundTrips .f32 (mk f) := by
  obtain ⟨cond, s, rn, rd, op2⟩ := f
  refine roundTrips_f32 (fs := F32.DP.fields ⟨cond, s, rn, rd, op2⟩ op) (hword.trans ?word) ?width ?operands
    ((decodeF32_of_dp ?cond ?opclass ?misc).trans (hdecode _ ?op))
  case word =>
    cases op2 <;> simp only [toWord, fields, Op2.fieldsBelow, Op2.fields, Op2.opClass, Op2.toWord, packed,
      List.cons_append, List.nil_append, toNat_mod_two, code_mod] <;> omega
  case width => cases op2 <;> rfl
  case operands =>
    cases op2 <;> simp [ofWord, fields, Op2.fieldsBelow, Op2.fields, Op2.opClass, Op2.ofWord]
  case cond => cases op2 <;> simpa [fields, Op2.fieldsBelow, Op2.fields] using condOk_field hcond
  case opclass => cases op2 <;> simp [fields, Op2.fieldsBelow, Op2.fields, Op2.opClass]
  case misc =>
    cases op2 <;> simp [fields, Op2.fieldsBelow, Op2.fields] <;> omega
  case op => cases op2 <;> simpa [fields, Op2.fieldsBelow, Op2.fields] using Nat.mod_eq_of_lt hop

def F32.DPC.fields (f : F32.DPC) (op : Nat) : List (Nat × Nat) :=
  f.op2.fieldsBelow fun c => [(4, f.rd), (4, f.rn), (1, 1), (4, op), (3, c), (4, f.cond.toNat)]

theorem F32.DPC.roundTrips {f : F32.DPC} {mk : F32.DPC → Instr} {op : Nat} (hcond : condOk f.cond = true)
    (hop : op < 16) (hword : encode (mk f) = 2 ^ 20 + op * 2 ^ 21 + f.toWord)
    (hdecode : ∀ w, fld w 21 4 = op → decodeF32Dp w = some (mk (.ofWord w))) : RoundTrips .f32 (mk f) := by
  obtain ⟨cond, rn, rd, op2⟩ := f
  refine roundTrips_f32 (fs := F32.DPC.fields ⟨cond, rn, rd, op2⟩ op) (hword.trans ?word) ?width ?operands
    ((decodeF32_of_dp ?cond ?opclass ?misc).trans (hdecode _ ?op))
  case word =>
    cases op2 <;> simp only [toWord, fields, Op2.fieldsBelow, Op2.fields, Op2.opClass, Op2.toWord, packed,
      List.cons_append, List.nil_append, code_mod] <;> omega
  case width => cases op2 <;> rfl
  case operands =>
    cases op2 <;> simp [ofWord, fields, Op2.fieldsBelow, Op2.fields, Op2.opClass, Op2.ofWord]
  case cond => cases op2 <;> simpa [fields, Op2.fieldsBelow, Op2.fields] using condOk_field hcond
  case opclass => cases op2 <;> simp [fields, Op2.fieldsBelow, Op2.fields, Op2.opClass]
  case misc =>
    cases op2 <;> simp [fields, Op2.fieldsBelow, Op2.fields]
  case op => cases op2 <;> simpa [fields, Op2.fieldsBelow, Op2.fields] using Nat.mod_eq_of_lt hop

/-! ### Multiplies and the miscellaneous space -/

def F32.MUL.fields (f : F32.MUL) (op : Nat) : List (Nat × Nat) :=
  [(4, f.rm), (4, 9), (4, f.rs), (4, 0), (4, f.rd), (1, f.s.toNat), (3, op), (1, 0), (3, 0), (4, f.cond.toNat)]

theorem F32.MUL.roundTrips {f : F32.MUL} {mk : F32.MUL → Instr} {op : Nat} (hcond : condOk f.cond = true)
    (hop : op < 8)
    (hword : encode (mk f) = op * 2 ^ 21 + 9 * 2 ^ 4 + f.toWord)
    (hdecode : ∀ w, fld w 28 4 ≠ 15 → fld w 25 3 = 0 → fld w 7 1 = 1 → fld w 4 1 = 1 → fld w 5 2 = 0 →
      fld w 24 1 = 0 → fld w 21 3 = op → decodeF32 w = some (mk (.ofWord w))) :
    RoundTrips .f32 (mk f) :=
  roundTrips_f32 (fs := f.fields op) (hword.trans (by simp only [toWord, packed, fields, toNat_mod_two]; omega)) rfl
    (by simp [ofWord, fields])
    (hdecode _ (by simpa [fields] using condOk_field hcond) (by simp [fields]) (by simp [fields]) (by simp [fields])
      (by simp [fields]) (by simp [fields]) (by simpa [fields] using Nat.mod_eq_of_lt hop))

def F32.MLA.fields (f : F32.MLA) (op : Nat) : List (Nat × Nat) :=
  [(4, f.rm), (4, 9), (4, f.rs), (4, f.rn), (4, f.rd), (1, f.s.toNat), (3, op), (1, 0), (3, 0), (4, f.cond.toNat)]

theorem F32.MLA.roundTrips {f : F32.MLA} {mk : F32.MLA → Instr} {op : Nat} (hcond : condOk f.cond = true)
    (hop : op < 8)
    (hword : encode (mk f) = op * 2 ^ 21 + 9 * 2 ^ 4 + f.toWord)
    (hdecode : ∀ w, fld w 28 4 ≠ 15 → fld w 25 3 = 0 → fld w 7 1 = 1 → fld w 4 1 = 1 → fld w 5 2 = 0 →
      fld w 24 1 = 0 → fld w 21 3 = op → decodeF32 w = some (mk (.ofWord w))) :
    RoundTrips .f32 (mk f) :=
  roundTrips_f32 (fs := f.fields op) (hword.trans (by simp only [toWord, packed, fields, toNat_mod_two]; omega)) rfl
    (by simp [ofWord, fields])
    (hdecode _ (by simpa [fields] using condOk_field hcond) (by simp [fields]) (by simp [fields]) (by simp [fields])
      (by simp [fields]) (by simp [fields]) (by simpa [fields] using Nat.mod_eq_of_lt hop))

def F32.MULL.fields (f : F32.MULL) (op : Nat) : List (Nat × Nat) :=
  [(4, f.rm), (4, 9), (4, f.rs), (4, f.rdLo), (4, f.rdHi), (1, f.s.toNat), (3, op), (1, 0), (3, 0), (4, f.cond.toNat)]

theorem F32.MULL.roundTrips {f : F32.MULL} {mk : F32.MULL → Instr} {op : Nat} (hcond : condOk f.cond = true)
    (hop : op < 8)
    (hword : encode (mk f) = op * 2 ^ 21 + 9 * 2 ^ 4 + f.toWord)
    (hdecode : ∀ w, fld w 28 4 ≠ 15 → fld w 25 3 = 0 → fld w 7 1 = 1 → fld w 4 1 = 1 → fld w 5 2 = 0 →
      fld w 24 1 = 0 → fld w 21 3 = op → decodeF32 w = some (mk (.ofWord w))) :
    RoundTrips .f32 (mk f) :=
  roundTrips_f32 (fs := f.fields op) (hword.trans (by simp only [toWord, packed, fields, toNat_mod_two]; omega)) rfl
    (by simp [ofWord, fields])
    (hdecode _ (by simpa [fields] using condOk_field hcond) (by simp [fields]) (by simp [fields]) (by simp [fields])
      (by simp [fields]) (by simp [fields]) (by simpa [fields] using Nat.mod_eq_of_lt hop))

def F32.SWP.fields (f : F32.SWP) (b : Nat) : List (Nat × Nat) :=
  [(4, f.rm), (4, 9), (4, 0), (4, f.rd), (4, f.rn), (4, b), (1, 1), (3, 0), (4, f.cond.toNat)]

theorem F32.SWP.roundTrips {f : F32.SWP} {mk : F32.SWP → Instr} {b : Nat} (hcond : condOk f.cond = true) (hb : b < 16)
    (hword : encode (mk f) = 2 ^ 24 + b * 2 ^ 20 + 9 * 2 ^ 4 + f.toWord)
    (hdecode : ∀ w, fld w 28 4 ≠ 15 → fld w 25 3 = 0 → fld w 7 1 = 1 → fld w 4 1 = 1 → fld w 5 2 = 0 →
      fld w 24 1 = 1 → fld w 8 4 = 0 → fld w 20 4 = b → decodeF32 w = some (mk (.ofWord w))) :
    RoundTrips .f32 (mk f) :=
  roundTrips_f32 (fs := f.fields b) (hword.trans (by simp only [toWord, packed, fields]; omega)) rfl
    (by simp [ofWord, fields])
    (hdecode _ (by simpa [fields] using condOk_field hcond) (by simp [fields]) (by simp [fields]) (by simp [fields])
      (by simp [fields]) (by simp [fields]) (by simp [fields]) (by simpa [fields] using Nat.mod_eq_of_lt hb))

def F32.SAT.fields (f : F32.SAT) (op : Nat) : List (Nat × Nat) :=
  [(4, f.rm), (4, 5), (4, 0), (4, f.rd), (4, f.rn), (1, 0), (2, op), (2, 2), (3, 0), (4, f.cond.toNat)]

theorem F32.SAT.roundTrips {f : F32.SAT} {mk : F32.SAT → Instr} {op : Nat} (hcond : condOk f.cond = true)
    (hop : op < 4)
    (hword : encode (mk f) = 2 ^ 24 + op * 2 ^ 21 + 5 * 2 ^ 4 + f.toWord)
    (hdecode : ∀ w, fld w 28 4 ≠ 15 → fld w 25 3 = 0 → fld w 7 1 = 0 → fld w 23 2 = 2 → fld w 20 1 = 0 →
      fld w 4 4 = 5 → fld w 8 4 = 0 → fld w 21 2 = op → decodeF32 w = some (mk (.ofWord w))) :
    RoundTrips .f32 (mk f) :=
  roundTrips_f32 (fs := f.fields op) (hword.trans (by simp only [toWord, packed, fields]; omega)) rfl
    (by simp [ofWord, fields])
    (hdecode _ (by simpa [fields] using condOk_field hcond) (by simp [fields]) (by simp [fields]) (by simp [fields])
      (by simp [fields]) (by simp [fields]) (by simp [fields]) (by simpa [fields] using Nat.mod_eq_of_lt hop))

def F32.MRS.fields (f : F32.MRS) : List (Nat × Nat) :=
  [(12, 0), (4, f.rd), (12, 0x10F), (4, f.cond.toNat)]

theorem F32.MRS.roundTrips {f : F32.MRS} {mk : F32.MRS → Instr} (hcond : condOk f.cond = true)
    (hword : encode (mk f) = 0x10F * 2 ^ 16 + f.toWord)
    (hdecode : ∀ w, fld w 28 4 ≠ 15 → fld w 25 3 = 0 → fld w 7 1 = 0 → fld w 23 2 = 2 → fld w 20 1 = 0 →
      fld w 4 4 = 0 → fld w 16 12 = 0x10F → fld w 0 12 = 0 → decodeF32 w = some (mk (.ofWord w))) :
    RoundTrips .f32 (mk f) :=
  roundTrips_f32 (fs := f.fields) (hword.trans (by simp only [toWord, packed, fields]; omega)) rfl
    (by simp [ofWord, fields])
    (hdecode _ (by simpa [fields] using condOk_field hcond) (by simp [fields]) (by simp [fields]) (by simp [fields])
      (by simp [fields]) (by simp [fields]) (by simp [fields]) (by simp [fields]))

def F32.MSR.fields (f : F32.MSR) : List (Nat × Nat) :=
  [(4, f.rm), (4, 0), (8, 0xF0), (4, f.fmask.toNat), (8, 0x12), (4, f.cond.toNat)]

theorem F32.MSR.roundTrips {f : F32.MSR} {mk : F32.MSR → Instr} (hcond : condOk f.cond = true)
    (hword : encode (mk f) = 0x12 * 2 ^ 20 + 0xF0 * 2 ^ 8 + f.toWord)
    (hdecode : ∀ w, fld w 28 4 ≠ 15 → fld w 25 3 = 0 → fld w 7 1 = 0 → fld w 23 2 = 2 → fld w 20 1 = 0 →
      fld w 4 4 = 0 → fld w 20 8 = 0x12 → fld w 8 8 = 0xF0 → decodeF32 w = some (mk (.ofWord w))) :
    RoundTrips .f32 (mk f) :=
  roundTrips_f32 (fs := f.fields) (hword.trans (by simp only [toWord, packed, fields]; omega)) rfl
    (by simp [ofWord, fields])
    (hdecode _ (by simpa [fields] using condOk_field hcond) (by simp [fields]) (by simp [fields]) (by simp [fields])
      (by simp [fields]) (by simp [fields]) (by simp [fields]) (by simp [fields]))

def F32.MSRI.fields (f : F32.MSRI) : List (Nat × Nat) :=
  [(8, f.imm8.toNat), (4, f.rot.toNat), (4, 15), (4, f.fmask.toNat), (8, 0x32), (4, f.cond.toNat)]

theorem F32.MSRI.roundTrips {f : F32.MSRI} {mk : F32.MSRI → Instr} (hcond : condOk f.cond = true)
    (hword : encode (mk f) = 0x32 * 2 ^ 20 + 15 * 2 ^ 12 + f.toWord)
    (hdecode : ∀ w, fld w 28 4 ≠ 15 → fld w 25 3 = 1 → fld w 23 2 = 2 → fld w 20 1 = 0 → fld w 20 5 = 18 →
      fld w 12 4 = 15 → decodeF32 w = some (mk (.ofWord w))) :
    RoundTrips .f32 (mk f) :=
  roundTrips_f32 (fs := f.fields) (hword.trans (by simp only [toWord, packed, fields]; omega)) rfl
    (by simp [ofWord, fields])
    (hdecode _ (by simpa [fields] using condOk_field hcond) (by simp [fields]) (by simp [fields]) (by simp [fields])
      (by simp [fields]) (by simp [fields]))

def F32.BXR.fields (f : F32.BXR) (op : Nat) : List (Nat × Nat) :=
  [(4, f.rm), (4, op), (20, 0x12FFF), (4, f.cond.toNat)]

theorem F32.BXR.roundTrips {f : F32.BXR} {mk : F32.BXR → Instr} {op : Nat} (hcond : condOk f.cond = true)
    (hop : op < 8)
    (hword : encode (mk f) = 0x12FFF * 2 ^ 8 + op * 2 ^ 4 + f.toWord)
    (hdecode : ∀ w, fld w 28 4 ≠ 15 → fld w 25 3 = 0 → fld w 7 1 = 0 → fld w 23 2 = 2 → fld w 20 1 = 0 →
      fld w 4 4 = op → fld w 8 20 = 0x12FFF → decodeF32 w = some (mk (.ofWord w))) :
    RoundTrips .f32 (mk f) :=
  roundTrips_f32 (fs := f.fields op) (hword.trans (by simp only [toWord, packed, fields]; omega)) rfl
    (by simp [ofWord, fields])
    (hdecode _ (by simpa [fields] using condOk_field hcond) (by simp [fields]) (by simp [fields]; omega)
      (by simp [fields]) (by simp [fields]) (by simpa [fields] using Nat.mod_eq_of_lt (show op < 2 ^ 4 by omega))
      (by simp [fields]))

/-! ### Loads and stores -/

def F32.LSHI.fields (f : F32.LSHI) (l sh : Nat) : List (Nat × Nat) :=
  [(4, f.imm8.toNat % 16), (1, 1), (2, sh), (1, 1), (4, f.imm8.toNat / 16), (4, f.rd), (4, f.rn), (1, l),
    (1, f.w.toNat), (1, 1), (1, f.u.toNat), (1, f.p.toNat), (3, 0), (4, f.cond.toNat)]

theorem F32.LSHI.roundTrips {f : F32.LSHI} {mk : F32.LSHI → Instr} {l sh : Nat} (hcond : condOk f.cond = true)
    (hl : l < 2) (hsh : sh < 4) (hsh0 : sh ≠ 0) (hidx : indexOk f.p f.w = true)
    (hword : encode (mk f) = 2 ^ 22 + l * 2 ^ 20 + 9 * 2 ^ 4 + sh * 2 ^ 5 + f.toWord)
    (hdecode : ∀ w, fld w 28 4 ≠ 15 → fld w 25 3 = 0 → fld w 7 1 = 1 → fld w 4 1 = 1 → fld w 5 2 ≠ 0 →
      ¬(fld w 24 1 = 0 ∧ fld w 21 1 = 1) → fld w 22 1 = 1 → fld w 20 1 = l → fld w 5 2 = sh → decodeF32 w = some (mk
      (.ofWord w))) :
    RoundTrips .f32 (mk f) :=
  roundTrips_f32 (fs := f.fields l sh) (hword.trans (by simp only [toWord, packed, fields, toNat_mod_two]; omega)) rfl
    (by obtain ⟨_, _, _, _, _, _, imm8⟩ := f; simp [ofWord, fields]; apply BitVec.eq_of_toNat_eq; simp; omega)
    (hdecode _ (by simpa [fields] using condOk_field hcond) (by simp [fields]) (by simp [fields]) (by simp [fields])
      (by simp [fields]; omega) (by simpa [fields] using indexOk_field hidx) (by simp [fields])
      (by simpa [fields] using Nat.mod_eq_of_lt hl) (by simpa [fields] using Nat.mod_eq_of_lt hsh))

def F32.LSHR.fields (f : F32.LSHR) (l sh : Nat) : List (Nat × Nat) :=
  [(4, f.rm), (1, 1), (2, sh), (1, 1), (4, 0), (4, f.rd), (4, f.rn), (1, l),
    (1, f.w.toNat), (1, 0), (1, f.u.toNat), (1, f.p.toNat), (3, 0), (4, f.cond.toNat)]

theorem F32.LSHR.roundTrips {f : F32.LSHR} {mk : F32.LSHR → Instr} {l sh : Nat} (hcond : condOk f.cond = true)
    (hl : l < 2) (hsh : sh < 4) (hsh0 : sh ≠ 0) (hidx : indexOk f.p f.w = true)
    (hword : encode (mk f) = l * 2 ^ 20 + 9 * 2 ^ 4 + sh * 2 ^ 5 + f.toWord)
    (hdecode : ∀ w, fld w 28 4 ≠ 15 → fld w 25 3 = 0 → fld w 7 1 = 1 → fld w 4 1 = 1 → fld w 5 2 ≠ 0 →
      ¬(fld w 24 1 = 0 ∧ fld w 21 1 = 1) → fld w 22 1 = 0 → fld w 8 4 = 0 → fld w 20 1 = l → fld w 5 2 = sh →
      decodeF32 w = some (mk (.ofWord w))) :
    RoundTrips .f32 (mk f) :=
  roundTrips_f32 (fs := f.fields l sh) (hword.trans (by simp only [toWord, packed, fields, toNat_mod_two]; omega)) rfl
    (by simp [ofWord, fields])
    (hdecode _ (by simpa [fields] using condOk_field hcond) (by simp [fields]) (by simp [fields]) (by simp [fields])
      (by simp [fields]; omega) (by simpa [fields] using indexOk_field hidx) (by simp [fields]) (by simp [fields])
      (by simpa [fields] using Nat.mod_eq_of_lt hl) (by simpa [fields] using Nat.mod_eq_of_lt hsh))

def F32.LSI.fields (f : F32.LSI) (b l : Nat) : List (Nat × Nat) :=
  [(12, f.imm12.toNat), (4, f.rd), (4, f.rn), (1, l), (1, f.w.toNat), (1, b), (1, f.u.toNat), (1, f.p.toNat), (3, 2),
    (4, f.cond.toNat)]

theorem F32.LSI.roundTrips {f : F32.LSI} {mk : F32.LSI → Instr} {b l : Nat} (hcond : condOk f.cond = true)
    (hb : b < 2) (hl : l < 2) (hidx : indexOk f.p f.w = true)
    (hword : encode (mk f) = 2 ^ 26 + b * 2 ^ 22 + l * 2 ^ 20 + f.toWord)
    (hdecode : ∀ w, fld w 28 4 ≠ 15 → fld w 25 3 = 2 → ¬(fld w 24 1 = 0 ∧ fld w 21 1 = 1) → fld w 22 1 = b →
      fld w 20 1 = l → decodeF32 w = some (mk (.ofWord w))) :
    RoundTrips .f32 (mk f) :=
  roundTrips_f32 (fs := f.fields b l) (hword.trans (by simp only [toWord, packed, fields, toNat_mod_two]; omega)) rfl
    (by simp [ofWord, fields])
    (hdecode _ (by simpa [fields] using condOk_field hcond) (by simp [fields])
      (by simpa [fields] using indexOk_field hidx) (by simpa [fields] using Nat.mod_eq_of_lt hb)
      (by simpa [fields] using Nat.mod_eq_of_lt hl))

def F32.LSR.fields (f : F32.LSR) (b l : Nat) : List (Nat × Nat) :=
  [(4, f.rm), (1, 0), (2, f.stype.code), (5, f.shamt.toNat), (4, f.rd), (4, f.rn), (1, l),
    (1, f.w.toNat), (1, b), (1, f.u.toNat), (1, f.p.toNat), (3, 3), (4, f.cond.toNat)]

theorem F32.LSR.roundTrips {f : F32.LSR} {mk : F32.LSR → Instr} {b l : Nat} (hcond : condOk f.cond = true)
    (hb : b < 2) (hl : l < 2) (hidx : indexOk f.p f.w = true)
    (hword : encode (mk f) = 3 * 2 ^ 25 + b * 2 ^ 22 + l * 2 ^ 20 + f.toWord)
    (hdecode : ∀ w, fld w 28 4 ≠ 15 → fld w 25 3 = 3 → fld w 4 1 = 0 → ¬(fld w 24 1 = 0 ∧ fld w 21 1 = 1) →
      fld w 22 1 = b → fld w 20 1 = l → decodeF32 w = some (mk (.ofWord w))) :
    RoundTrips .f32 (mk f) :=
  roundTrips_f32 (fs := f.fields b l) (hword.trans
    (by simp only [toWord, packed, fields, toNat_mod_two, code_mod]; omega)) rfl
    (by simp [ofWord, fields])
    (hdecode _ (by simpa [fields] using condOk_field hcond) (by simp [fields]) (by simp [fields])
      (by simpa [fields] using indexOk_field hidx) (by simpa [fields] using Nat.mod_eq_of_lt hb)
      (by simpa [fields] using Nat.mod_eq_of_lt hl))

def F32.LSIT.fields (f : F32.LSIT) (b l : Nat) : List (Nat × Nat) :=
  [(12, f.imm12.toNat), (4, f.rd), (4, f.rn), (1, l), (1, 1), (1, b), (1, f.u.toNat), (1, 0), (3, 2),
    (4, f.cond.toNat)]

theorem F32.LSIT.roundTrips {f : F32.LSIT} {mk : F32.LSIT → Instr} {b l : Nat} (hcond : condOk f.cond = true)
    (hb : b < 2) (hl : l < 2)
    (hword : encode (mk f) = 2 ^ 26 + 2 ^ 21 + b * 2 ^ 22 + l * 2 ^ 20 + f.toWord)
    (hdecode : ∀ w, fld w 28 4 ≠ 15 → fld w 25 3 = 2 → fld w 24 1 = 0 → fld w 21 1 = 1 → fld w 22 1 = b →
      fld w 20 1 = l → decodeF32 w = some (mk (.ofWord w))) :
    RoundTrips .f32 (mk f) :=
  roundTrips_f32 (fs := f.fields b l) (hword.trans (by simp only [toWord, packed, fields, toNat_mod_two]; omega)) rfl
    (by simp [ofWord, fields])
    (hdecode _ (by simpa [fields] using condOk_field hcond) (by simp [fields]) (by simp [fields]) (by simp [fields])
      (by simpa [fields] using Nat.mod_eq_of_lt hb) (by simpa [fields] using Nat.mod_eq_of_lt hl))

def F32.LSRT.fields (f : F32.LSRT) (b l : Nat) : List (Nat × Nat) :=
  [(4, f.rm), (1, 0), (2, f.stype.code), (5, f.shamt.toNat), (4, f.rd), (4, f.rn), (1, l),
    (1, 1), (1, b), (1, f.u.toNat), (1, 0), (3, 3), (4, f.cond.toNat)]

theorem F32.LSRT.roundTrips {f : F32.LSRT} {mk : F32.LSRT → Instr} {b l : Nat} (hcond : condOk f.cond = true)
    (hb : b < 2) (hl : l < 2)
    (hword : encode (mk f) = 3 * 2 ^ 25 + 2 ^ 21 + b * 2 ^ 22 + l * 2 ^ 20 + f.toWord)
    (hdecode : ∀ w, fld w 28 4 ≠ 15 → fld w 25 3 = 3 → fld w 4 1 = 0 → fld w 24 1 = 0 → fld w 21 1 = 1 →
      fld w 22 1 = b → fld w 20 1 = l → decodeF32 w = some (mk (.ofWord w))) :
    RoundTrips .f32 (mk f) :=
  roundTrips_f32 (fs := f.fields b l) (hword.trans
    (by simp only [toWord, packed, fields, toNat_mod_two, code_mod]; omega)) rfl
    (by simp [ofWord, fields])
    (hdecode _ (by simpa [fields] using condOk_field hcond) (by simp [fields]) (by simp [fields]) (by simp [fields])
      (by simp [fields]) (by simpa [fields] using Nat.mod_eq_of_lt hb) (by simpa [fields] using Nat.mod_eq_of_lt hl))

def F32.LSM.fields (f : F32.LSM) (l : Nat) : List (Nat × Nat) :=
  [(16, f.reglist.toNat), (4, f.rn), (1, l), (1, f.w.toNat), (1, f.s.toNat), (1, f.u.toNat), (1, f.p.toNat), (3, 4),
    (4, f.cond.toNat)]

theorem F32.LSM.roundTrips {f : F32.LSM} {mk : F32.LSM → Instr} {l : Nat} (hcond : condOk f.cond = true) (hl : l < 2)
    (hword : encode (mk f) = 2 ^ 27 + l * 2 ^ 20 + f.toWord)
    (hdecode : ∀ w, fld w 28 4 ≠ 15 → fld w 25 3 = 4 → fld w 20 1 = l → decodeF32 w = some (mk (.ofWord w))) :
    RoundTrips .f32 (mk f) :=
  roundTrips_f32 (fs := f.fields l) (hword.trans (by simp only [toWord, packed, fields, toNat_mod_two]; omega)) rfl
    (by simp [ofWord, fields])
    (hdecode _ (by simpa [fields] using condOk_field hcond) (by simp [fields])
      (by simpa [fields] using Nat.mod_eq_of_lt hl))

/-! ### Branches, the vector unit, the privileged-state registers -/

def F32.BR.fields (f : F32.BR) (l : Nat) : List (Nat × Nat) :=
  [(24, f.imm24.toNat), (1, l), (3, 5), (4, f.cond.toNat)]

theorem F32.BR.roundTrips {f : F32.BR} {mk : F32.BR → Instr} {l : Nat} (hcond : condOk f.cond = true) (hl : l < 2)
    (hword : encode (mk f) = 5 * 2 ^ 25 + l * 2 ^ 24 + f.toWord)
    (hdecode : ∀ w, fld w 28 4 ≠ 15 → fld w 25 3 = 5 → fld w 24 1 = l → decodeF32 w = some (mk (.ofWord w))) :
    RoundTrips .f32 (mk f) :=
  roundTrips_f32 (fs := f.fields l) (hword.trans (by simp only [toWord, packed, fields]; omega)) rfl
    (by simp [ofWord, fields])
    (hdecode _ (by simpa [fields] using condOk_field hcond) (by simp [fields])
      (by simpa [fields] using Nat.mod_eq_of_lt hl))

def F32.BLXI.fields (f : F32.BLXI) : List (Nat × Nat) :=
  [(24, f.imm24.toNat), (1, f.h.toNat), (3, 5), (4, 15)]

theorem F32.BLXI.roundTrips {f : F32.BLXI} {mk : F32.BLXI → Instr}
    (hword : encode (mk f) = 15 * 2 ^ 28 + 5 * 2 ^ 25 + f.toWord)
    (hdecode : ∀ w, fld w 28 4 = 15 → fld w 25 3 = 5 → decodeF32 w = some (mk (.ofWord w))) :
    RoundTrips .f32 (mk f) :=
  roundTrips_f32 (fs := f.fields) (hword.trans (by simp only [toWord, packed, fields, toNat_mod_two]; omega)) rfl
    (by simp [ofWord, fields])
    (hdecode _ (by simp [fields]) (by simp [fields]))

def F32.VOP.fields (f : F32.VOP) (x op : Nat) : List (Nat × Nat) :=
  [(4, f.vm), (1, 0), (2, f.sz.toNat), (1, f.u.toNat), (1, x), (3, 5), (4, f.vd), (4, f.vn), (4, op), (1, 0), (3, 7),
    (4, f.cond.toNat)]

theorem F32.VOP.roundTrips {f : F32.VOP} {mk : F32.VOP → Instr} {x op : Nat} (hcond : condOk f.cond = true)
    (hx : x < 2) (hop : op < 16)
    (hword : encode (mk f) = 7 * 2 ^ 25 + 5 * 2 ^ 9 + x * 2 ^ 8 + op * 2 ^ 20 + f.toWord)
    (hdecode : ∀ w, fld w 28 4 ≠ 15 → fld w 25 3 = 7 → fld w 24 1 = 0 → fld w 9 3 = 5 → fld w 4 1 = 0 →
      fld w 8 1 = x → fld w 20 4 = op → decodeF32 w = some (mk (.ofWord w))) :
    RoundTrips .f32 (mk f) :=
  roundTrips_f32 (fs := f.fields x op) (hword.trans (by simp only [toWord, packed, fields, toNat_mod_two]; omega)) rfl
    (by simp [ofWord, fields])
    (hdecode _ (by simpa [fields] using condOk_field hcond) (by simp [fields]) (by simp [fields]) (by simp [fields])
      (by simp [fields]) (by simpa [fields] using Nat.mod_eq_of_lt hx) (by simpa [fields] using Nat.mod_eq_of_lt hop))

def F32.VXFER.fields (f : F32.VXFER) (l : Nat) : List (Nat × Nat) :=
  [(4, f.vm), (8, 0xA0), (4, f.rt), (4, f.rt2), (1, l), (7, 0x62), (4, f.cond.toNat)]

theorem F32.VXFER.roundTrips {f : F32.VXFER} {mk : F32.VXFER → Instr} {l : Nat} (hcond : condOk f.cond = true)
    (hl : l < 2)
    (hword : encode (mk f) = 0x62 * 2 ^ 21 + l * 2 ^ 20 + 0xA0 * 2 ^ 4 + f.toWord)
    (hdecode : ∀ w, fld w 28 4 ≠ 15 → fld w 25 3 = 6 → fld w 22 1 = 1 → fld w 21 7 = 0x62 → fld w 4 8 = 0xA0 →
      fld w 20 1 = l → decodeF32 w = some (mk (.ofWord w))) :
    RoundTrips .f32 (mk f) :=
  roundTrips_f32 (fs := f.fields l) (hword.trans (by simp only [toWord, packed, fields]; omega)) rfl
    (by simp [ofWord, fields])
    (hdecode _ (by simpa [fields] using condOk_field hcond) (by simp [fields]) (by simp [fields]) (by simp [fields])
      (by simp [fields]) (by simpa [fields] using Nat.mod_eq_of_lt hl))

def F32.VCTL.fields (f : F32.VCTL) (l : Nat) : List (Nat × Nat) :=
  [(8, 0x10), (4, 10), (4, f.rt), (4, f.vcn.toNat), (1, l), (3, 0), (1, 0), (3, 7), (4, f.cond.toNat)]

theorem F32.VCTL.roundTrips {f : F32.VCTL} {mk : F32.VCTL → Instr} {l : Nat} (hcond : condOk f.cond = true)
    (hl : l < 2)
    (hword : encode (mk f) = 7 * 2 ^ 25 + l * 2 ^ 20 + 10 * 2 ^ 8 + 2 ^ 4 + f.toWord)
    (hdecode : ∀ w, fld w 28 4 ≠ 15 → fld w 25 3 = 7 → fld w 24 1 = 0 → fld w 4 1 = 1 → fld w 8 4 = 10 →
      fld w 0 8 = 0x10 → fld w 21 3 = 0 → fld w 20 1 = l → decodeF32 w = some (mk (.ofWord w))) :
    RoundTrips .f32 (mk f) :=
  roundTrips_f32 (fs := f.fields l) (hword.trans (by simp only [toWord, packed, fields]; omega)) rfl
    (by simp [ofWord, fields])
    (hdecode _ (by simpa [fields] using condOk_field hcond) (by simp [fields]) (by simp [fields]) (by simp [fields])
      (by simp [fields]) (by simp [fields]) (by simp [fields]) (by simpa [fields] using Nat.mod_eq_of_lt hl))

def F32.VLS.fields (f : F32.VLS) (l : Nat) : List (Nat × Nat) :=
  [(8, f.imm8.toNat), (4, 10), (4, f.vd), (4, f.rn), (1, l), (1, f.w.toNat), (1, 0), (1, f.u.toNat), (1, f.p.toNat),
    (3, 6),
    (4, f.cond.toNat)]

theorem F32.VLS.roundTrips {f : F32.VLS} {mk : F32.VLS → Instr} {l : Nat} (hcond : condOk f.cond = true) (hl : l < 2)
    (hidx : vectorIndexOk f.p f.w = true)
    (hword : encode (mk f) = 6 * 2 ^ 25 + l * 2 ^ 20 + 10 * 2 ^ 8 + f.toWord)
    (hdecode : ∀ w, fld w 28 4 ≠ 15 → fld w 25 3 = 6 → fld w 8 4 = 10 → fld w 22 1 = 0 →
      ¬(fld w 24 1 = 0 ∧ fld w 21 1 = 0) → fld w 20 1 = l → decodeF32 w = some (mk (.ofWord w))) :
    RoundTrips .f32 (mk f) :=
  roundTrips_f32 (fs := f.fields l) (hword.trans (by simp only [toWord, packed, fields, toNat_mod_two]; omega)) rfl
    (by simp [ofWord, fields])
    (hdecode _ (by simpa [fields] using condOk_field hcond) (by simp [fields]) (by simp [fields]) (by simp [fields])
      (by simpa [fields] using vectorIndexOk_field hidx) (by simpa [fields] using Nat.mod_eq_of_lt hl))

def F32.SYS.fields (f : F32.SYS) (l : Nat) : List (Nat × Nat) :=
  [(4, f.crm.toNat), (1, 1), (3, f.opc2.toNat), (4, 15), (4, f.rt), (4, f.crn.toNat), (1, l), (3, f.opc1.toNat),
    (1, 0), (3, 7),
    (4, f.cond.toNat)]

theorem F32.SYS.roundTrips {f : F32.SYS} {mk : F32.SYS → Instr} {l : Nat} (hcond : condOk f.cond = true) (hl : l < 2)
    (hword : encode (mk f) = 7 * 2 ^ 25 + l * 2 ^ 20 + 15 * 2 ^ 8 + 2 ^ 4 + f.toWord)
    (hdecode : ∀ w, fld w 28 4 ≠ 15 → fld w 25 3 = 7 → fld w 24 1 = 0 → fld w 4 1 = 1 → fld w 8 4 = 15 →
      fld w 20 1 = l → decodeF32 w = some (mk (.ofWord w))) :
    RoundTrips .f32 (mk f) :=
  roundTrips_f32 (fs := f.fields l) (hword.trans (by simp only [toWord, packed, fields]; omega)) rfl
    (by simp [ofWord, fields])
    (hdecode _ (by simpa [fields] using condOk_field hcond) (by simp [fields]) (by simp [fields]) (by simp [fields])
      (by simp [fields]) (by simpa [fields] using Nat.mod_eq_of_lt hl))

/-- `MRS` and `MSR` differ in `I[27:20]`. -/
theorem decodeF32Misc_msr {w : Nat} (h4 : fld w 4 4 = 0) (h20 : fld w 20 8 = 0x12) (h8 : fld w 8 8 = 0xF0) :
    decodeF32Misc w = some (.f32MsrMisc (.ofWord w)) := by
  have hmrs : fld w 16 12 ≠ 0x10F := by simp only [fld] at *; omega
  simp [decodeF32Misc, h4, h20, h8, hmrs]

/-- Settles O8: every format packs its fields where the decoder reads them, and each row's selecting bits are its own. -/
theorem decodeEncodeF32 : Obligations.DecodeEncodeF32 := by
  intro i hwf hmode
  cases i with
  | f32And f =>
    exact F32.DP.roundTrips (mk := .f32And) (op := 0) hwf (by decide) (by decide) rfl fun w h =>
      by simp [decodeF32Dp, h]
  | f32Eor f =>
    exact F32.DP.roundTrips (mk := .f32Eor) (op := 1) hwf (by decide) (by decide) rfl fun w h =>
      by simp [decodeF32Dp, h]
  | f32Sub f =>
    exact F32.DP.roundTrips (mk := .f32Sub) (op := 2) hwf (by decide) (by decide) rfl fun w h =>
      by simp [decodeF32Dp, h]
  | f32Rsb f =>
    exact F32.DP.roundTrips (mk := .f32Rsb) (op := 3) hwf (by decide) (by decide) rfl fun w h =>
      by simp [decodeF32Dp, h]
  | f32Add f =>
    exact F32.DP.roundTrips (mk := .f32Add) (op := 4) hwf (by decide) (by decide) rfl fun w h =>
      by simp [decodeF32Dp, h]
  | f32Adc f =>
    exact F32.DP.roundTrips (mk := .f32Adc) (op := 5) hwf (by decide) (by decide) rfl fun w h =>
      by simp [decodeF32Dp, h]
  | f32Sbc f =>
    exact F32.DP.roundTrips (mk := .f32Sbc) (op := 6) hwf (by decide) (by decide) rfl fun w h =>
      by simp [decodeF32Dp, h]
  | f32Rsc f =>
    exact F32.DP.roundTrips (mk := .f32Rsc) (op := 7) hwf (by decide) (by decide) rfl fun w h =>
      by simp [decodeF32Dp, h]
  | f32Tst f =>
    exact F32.DPC.roundTrips (mk := .f32Tst) (op := 8) hwf (by decide) rfl fun w h =>
      by simp [decodeF32Dp, h]
  | f32Teq f =>
    exact F32.DPC.roundTrips (mk := .f32Teq) (op := 9) hwf (by decide) rfl fun w h =>
      by simp [decodeF32Dp, h]
  | f32Cmp f =>
    exact F32.DPC.roundTrips (mk := .f32Cmp) (op := 10) hwf (by decide) rfl fun w h =>
      by simp [decodeF32Dp, h]
  | f32Cmn f =>
    exact F32.DPC.roundTrips (mk := .f32Cmn) (op := 11) hwf (by decide) rfl fun w h =>
      by simp [decodeF32Dp, h]
  | f32Orr f =>
    exact F32.DP.roundTrips (mk := .f32Orr) (op := 12) hwf (by decide) (by decide) rfl fun w h =>
      by simp [decodeF32Dp, h]
  | f32Mov f =>
    exact F32.DP.roundTrips (mk := .f32Mov) (op := 13) hwf (by decide) (by decide) rfl fun w h =>
      by simp [decodeF32Dp, h]
  | f32Bic f =>
    exact F32.DP.roundTrips (mk := .f32Bic) (op := 14) hwf (by decide) (by decide) rfl fun w h =>
      by simp [decodeF32Dp, h]
  | f32Mvn f =>
    exact F32.DP.roundTrips (mk := .f32Mvn) (op := 15) hwf (by decide) (by decide) rfl fun w h =>
      by simp [decodeF32Dp, h]
  | f32MulMul f =>
    exact F32.MUL.roundTrips (mk := .f32MulMul) (op := 0) hwf (by decide) rfl fun w hc h25 h7 h4 h5 h24 h21 =>
      by simp [decodeF32, hc, h25, decodeF32Class0, h7, h4, h5, decodeF32MulSwp, h24, h21]
  | f32MlaMul f =>
    exact F32.MLA.roundTrips (mk := .f32MlaMul) (op := 1) hwf (by decide) rfl fun w hc h25 h7 h4 h5 h24 h21 =>
      by simp [decodeF32, hc, h25, decodeF32Class0, h7, h4, h5, decodeF32MulSwp, h24, h21]
  | f32UmullMull f =>
    exact F32.MULL.roundTrips (mk := .f32UmullMull) (op := 4) hwf (by decide) rfl fun w hc h25 h7 h4 h5 h24 h21 =>
      by simp [decodeF32, hc, h25, decodeF32Class0, h7, h4, h5, decodeF32MulSwp, h24, h21]
  | f32UmlalMull f =>
    exact F32.MULL.roundTrips (mk := .f32UmlalMull) (op := 5) hwf (by decide) rfl fun w hc h25 h7 h4 h5 h24 h21 =>
      by simp [decodeF32, hc, h25, decodeF32Class0, h7, h4, h5, decodeF32MulSwp, h24, h21]
  | f32SmullMull f =>
    exact F32.MULL.roundTrips (mk := .f32SmullMull) (op := 6) hwf (by decide) rfl fun w hc h25 h7 h4 h5 h24 h21 =>
      by simp [decodeF32, hc, h25, decodeF32Class0, h7, h4, h5, decodeF32MulSwp, h24, h21]
  | f32SmlalMull f =>
    exact F32.MULL.roundTrips (mk := .f32SmlalMull) (op := 7) hwf (by decide) rfl fun w hc h25 h7 h4 h5 h24 h21 =>
      by simp [decodeF32, hc, h25, decodeF32Class0, h7, h4, h5, decodeF32MulSwp, h24, h21]
  | f32SwpSwp f =>
    exact F32.SWP.roundTrips (mk := .f32SwpSwp) (b := 0) hwf (by decide) rfl fun w hc h25 h7 h4 h5 h24 h8 h20 =>
      by simp [decodeF32, hc, h25, decodeF32Class0, h7, h4, h5, decodeF32MulSwp, h24, h8, h20]
  | f32SwpbSwp f =>
    exact F32.SWP.roundTrips (mk := .f32SwpbSwp) (b := 4) hwf (by decide) rfl fun w hc h25 h7 h4 h5 h24 h8 h20 =>
      by simp [decodeF32, hc, h25, decodeF32Class0, h7, h4, h5, decodeF32MulSwp, h24, h8, h20]
  | f32MrsMisc f =>
    exact F32.MRS.roundTrips (mk := .f32MrsMisc) hwf rfl fun w hc h25 h7 h23 h20 h4 h16 h0 =>
      by simp [decodeF32, hc, h25, decodeF32Class0, h7, h23, h20, decodeF32Misc, h4, h16, h0]
  | f32MsrMisc f =>
    exact F32.MSR.roundTrips (mk := .f32MsrMisc) hwf rfl fun w hc h25 h7 h23 h20 h4 hmsr h8 =>
      by simp [decodeF32, hc, h25, decodeF32Class0, h7, h23, h20, decodeF32Misc_msr h4 hmsr h8]
  | f32MsrMsri f =>
    exact F32.MSRI.roundTrips (mk := .f32MsrMsri) hwf rfl fun w hc h25 h23 h20 hmsr h12 =>
      by simp [decodeF32, hc, h25, decodeF32Class1, h23, h20, hmsr, h12]
  | f32BxMisc f =>
    exact F32.BXR.roundTrips (mk := .f32BxMisc) (op := 1) hwf (by decide) rfl fun w hc h25 h7 h23 h20 h4 h8 =>
      by simp [decodeF32, hc, h25, decodeF32Class0, h7, h23, h20, decodeF32Misc, h4, h8]
  | f32BlxMisc f =>
    exact F32.BXR.roundTrips (mk := .f32BlxMisc) (op := 3) hwf (by decide) rfl fun w hc h25 h7 h23 h20 h4 h8 =>
      by simp [decodeF32, hc, h25, decodeF32Class0, h7, h23, h20, decodeF32Misc, h4, h8]
  | f32QaddSat f =>
    exact F32.SAT.roundTrips (mk := .f32QaddSat) (op := 0) hwf (by decide) rfl fun w hc h25 h7 h23 h20 h4 h8 h21 =>
      by simp [decodeF32, hc, h25, decodeF32Class0, h7, h23, h20, decodeF32Misc, h4, h8, h21]
  | f32QsubSat f =>
    exact F32.SAT.roundTrips (mk := .f32QsubSat) (op := 1) hwf (by decide) rfl fun w hc h25 h7 h23 h20 h4 h8 h21 =>
      by simp [decodeF32, hc, h25, decodeF32Class0, h7, h23, h20, decodeF32Misc, h4, h8, h21]
  | f32QdaddSat f =>
    exact F32.SAT.roundTrips (mk := .f32QdaddSat) (op := 2) hwf (by decide) rfl fun w hc h25 h7 h23 h20 h4 h8 h21 =>
      by simp [decodeF32, hc, h25, decodeF32Class0, h7, h23, h20, decodeF32Misc, h4, h8, h21]
  | f32QdsubSat f =>
    exact F32.SAT.roundTrips (mk := .f32QdsubSat) (op := 3) hwf (by decide) rfl fun w hc h25 h7 h23 h20 h4 h8 h21 =>
      by simp [decodeF32, hc, h25, decodeF32Class0, h7, h23, h20, decodeF32Misc, h4, h8, h21]
  | f32StrhLshi f =>
    exact F32.LSHI.roundTrips (mk := .f32StrhLshi) (l := 0) (sh := 1) (Bool.and_eq_true_iff.1 hwf).1 (by decide)
      (by decide) (by decide) (Bool.and_eq_true_iff.1 hwf).2 rfl fun w hc h25 h7 h4 hsh hidx h22 h20 h5 =>
      by simp [decodeF32, hc, h25, decodeF32Class0, h7, h4, decodeF32Half, hidx, h22, h20, h5]
  | f32StrhLshr f =>
    exact F32.LSHR.roundTrips (mk := .f32StrhLshr) (l := 0) (sh := 1) (Bool.and_eq_true_iff.1 hwf).1 (by decide)
      (by decide) (by decide) (Bool.and_eq_true_iff.1 hwf).2 rfl fun w hc h25 h7 h4 hsh hidx h22 h8 h20 h5 =>
      by simp [decodeF32, hc, h25, decodeF32Class0, h7, h4, decodeF32Half, hidx, h22, h8, h20, h5]
  | f32LdrdLshi f =>
    exact F32.LSHI.roundTrips (mk := .f32LdrdLshi) (l := 0) (sh := 2) (Bool.and_eq_true_iff.1 hwf).1 (by decide)
      (by decide) (by decide) (Bool.and_eq_true_iff.1 hwf).2 rfl fun w hc h25 h7 h4 hsh hidx h22 h20 h5 =>
      by simp [decodeF32, hc, h25, decodeF32Class0, h7, h4, decodeF32Half, hidx, h22, h20, h5]
  | f32LdrdLshr f =>
    exact F32.LSHR.roundTrips (mk := .f32LdrdLshr) (l := 0) (sh := 2) (Bool.and_eq_true_iff.1 hwf).1 (by decide)
      (by decide) (by decide) (Bool.and_eq_true_iff.1 hwf).2 rfl fun w hc h25 h7 h4 hsh hidx h22 h8 h20 h5 =>
      by simp [decodeF32, hc, h25, decodeF32Class0, h7, h4, decodeF32Half, hidx, h22, h8, h20, h5]
  | f32StrdLshi f =>
    exact F32.LSHI.roundTrips (mk := .f32StrdLshi) (l := 0) (sh := 3) (Bool.and_eq_true_iff.1 hwf).1 (by decide)
      (by decide) (by decide) (Bool.and_eq_true_iff.1 hwf).2 rfl fun w hc h25 h7 h4 hsh hidx h22 h20 h5 =>
      by simp [decodeF32, hc, h25, decodeF32Class0, h7, h4, decodeF32Half, hidx, h22, h20, h5]
  | f32StrdLshr f =>
    exact F32.LSHR.roundTrips (mk := .f32StrdLshr) (l := 0) (sh := 3) (Bool.and_eq_true_iff.1 hwf).1 (by decide)
      (by decide) (by decide) (Bool.and_eq_true_iff.1 hwf).2 rfl fun w hc h25 h7 h4 hsh hidx h22 h8 h20 h5 =>
      by simp [decodeF32, hc, h25, decodeF32Class0, h7, h4, decodeF32Half, hidx, h22, h8, h20, h5]
  | f32LdrhLshi f =>
    exact F32.LSHI.roundTrips (mk := .f32LdrhLshi) (l := 1) (sh := 1) (Bool.and_eq_true_iff.1 hwf).1 (by decide)
      (by decide) (by decide) (Bool.and_eq_true_iff.1 hwf).2 rfl fun w hc h25 h7 h4 hsh hidx h22 h20 h5 =>
      by simp [decodeF32, hc, h25, decodeF32Class0, h7, h4, decodeF32Half, hidx, h22, h20, h5]
  | f32LdrhLshr f =>
    exact F32.LSHR.roundTrips (mk := .f32LdrhLshr) (l := 1) (sh := 1) (Bool.and_eq_true_iff.1 hwf).1 (by decide)
      (by decide) (by decide) (Bool.and_eq_true_iff.1 hwf).2 rfl fun w hc h25 h7 h4 hsh hidx h22 h8 h20 h5 =>
      by simp [decodeF32, hc, h25, decodeF32Class0, h7, h4, decodeF32Half, hidx, h22, h8, h20, h5]
  | f32LdrsbLshi f =>
    exact F32.LSHI.roundTrips (mk := .f32LdrsbLshi) (l := 1) (sh := 2) (Bool.and_eq_true_iff.1 hwf).1 (by decide)
      (by decide) (by decide) (Bool.and_eq_true_iff.1 hwf).2 rfl fun w hc h25 h7 h4 hsh hidx h22 h20 h5 =>
      by simp [decodeF32, hc, h25, decodeF32Class0, h7, h4, decodeF32Half, hidx, h22, h20, h5]
  | f32LdrsbLshr f =>
    exact F32.LSHR.roundTrips (mk := .f32LdrsbLshr) (l := 1) (sh := 2) (Bool.and_eq_true_iff.1 hwf).1 (by decide)
      (by decide) (by decide) (Bool.and_eq_true_iff.1 hwf).2 rfl fun w hc h25 h7 h4 hsh hidx h22 h8 h20 h5 =>
      by simp [decodeF32, hc, h25, decodeF32Class0, h7, h4, decodeF32Half, hidx, h22, h8, h20, h5]
  | f32LdrshLshi f =>
    exact F32.LSHI.roundTrips (mk := .f32LdrshLshi) (l := 1) (sh := 3) (Bool.and_eq_true_iff.1 hwf).1 (by decide)
      (by decide) (by decide) (Bool.and_eq_true_iff.1 hwf).2 rfl fun w hc h25 h7 h4 hsh hidx h22 h20 h5 =>
      by simp [decodeF32, hc, h25, decodeF32Class0, h7, h4, decodeF32Half, hidx, h22, h20, h5]
  | f32LdrshLshr f =>
    exact F32.LSHR.roundTrips (mk := .f32LdrshLshr) (l := 1) (sh := 3) (Bool.and_eq_true_iff.1 hwf).1 (by decide)
      (by decide) (by decide) (Bool.and_eq_true_iff.1 hwf).2 rfl fun w hc h25 h7 h4 hsh hidx h22 h8 h20 h5 =>
      by simp [decodeF32, hc, h25, decodeF32Class0, h7, h4, decodeF32Half, hidx, h22, h8, h20, h5]
  | f32StrLsi f =>
    exact F32.LSI.roundTrips (mk := .f32StrLsi) (b := 0) (l := 0) (Bool.and_eq_true_iff.1 hwf).1 (by decide)
      (by decide) (Bool.and_eq_true_iff.1 hwf).2 rfl fun w hc h25 hidx h22 h20 =>
      by simp [decodeF32, hc, h25, decodeF32Lsi, hidx, h22, h20]
  | f32StrLsr f =>
    exact F32.LSR.roundTrips (mk := .f32StrLsr) (b := 0) (l := 0) (Bool.and_eq_true_iff.1 hwf).1 (by decide)
      (by decide) (Bool.and_eq_true_iff.1 hwf).2 rfl fun w hc h25 h4 hidx h22 h20 =>
      by simp [decodeF32, hc, h25, h4, decodeF32Lsr, hidx, h22, h20]
  | f32StrtLsi f =>
    exact F32.LSIT.roundTrips (mk := .f32StrtLsi) (b := 0) (l := 0) hwf (by decide)
      (by decide) rfl fun w hc h25 h24 h21 h22 h20 =>
      by simp [decodeF32, hc, h25, decodeF32Lsi, h24, h21, h22, h20]
  | f32StrtLsr f =>
    exact F32.LSRT.roundTrips (mk := .f32StrtLsr) (b := 0) (l := 0) hwf (by decide)
      (by decide) rfl fun w hc h25 h4 h24 h21 h22 h20 =>
      by simp [decodeF32, hc, h25, h4, decodeF32Lsr, h24, h21, h22, h20]
  | f32LdrLsi f =>
    exact F32.LSI.roundTrips (mk := .f32LdrLsi) (b := 0) (l := 1) (Bool.and_eq_true_iff.1 hwf).1 (by decide)
      (by decide) (Bool.and_eq_true_iff.1 hwf).2 rfl fun w hc h25 hidx h22 h20 =>
      by simp [decodeF32, hc, h25, decodeF32Lsi, hidx, h22, h20]
  | f32LdrLsr f =>
    exact F32.LSR.roundTrips (mk := .f32LdrLsr) (b := 0) (l := 1) (Bool.and_eq_true_iff.1 hwf).1 (by decide)
      (by decide) (Bool.and_eq_true_iff.1 hwf).2 rfl fun w hc h25 h4 hidx h22 h20 =>
      by simp [decodeF32, hc, h25, h4, decodeF32Lsr, hidx, h22, h20]
  | f32LdrtLsi f =>
    exact F32.LSIT.roundTrips (mk := .f32LdrtLsi) (b := 0) (l := 1) hwf (by decide)
      (by decide) rfl fun w hc h25 h24 h21 h22 h20 =>
      by simp [decodeF32, hc, h25, decodeF32Lsi, h24, h21, h22, h20]
  | f32LdrtLsr f =>
    exact F32.LSRT.roundTrips (mk := .f32LdrtLsr) (b := 0) (l := 1) hwf (by decide)
      (by decide) rfl fun w hc h25 h4 h24 h21 h22 h20 =>
      by simp [decodeF32, hc, h25, h4, decodeF32Lsr, h24, h21, h22, h20]
  | f32StrbLsi f =>
    exact F32.LSI.roundTrips (mk := .f32StrbLsi) (b := 1) (l := 0) (Bool.and_eq_true_iff.1 hwf).1 (by decide)
      (by decide) (Bool.and_eq_true_iff.1 hwf).2 rfl fun w hc h25 hidx h22 h20 =>
      by simp [decodeF32, hc, h25, decodeF32Lsi, hidx, h22, h20]
  | f32StrbLsr f =>
    exact F32.LSR.roundTrips (mk := .f32StrbLsr) (b := 1) (l := 0) (Bool.and_eq_true_iff.1 hwf).1 (by decide)
      (by decide) (Bool.and_eq_true_iff.1 hwf).2 rfl fun w hc h25 h4 hidx h22 h20 =>
      by simp [decodeF32, hc, h25, h4, decodeF32Lsr, hidx, h22, h20]
  | f32StrbtLsi f =>
    exact F32.LSIT.roundTrips (mk := .f32StrbtLsi) (b := 1) (l := 0) hwf (by decide)
      (by decide) rfl fun w hc h25 h24 h21 h22 h20 =>
      by simp [decodeF32, hc, h25, decodeF32Lsi, h24, h21, h22, h20]
  | f32StrbtLsr f =>
    exact F32.LSRT.roundTrips (mk := .f32StrbtLsr) (b := 1) (l := 0) hwf (by decide)
      (by decide) rfl fun w hc h25 h4 h24 h21 h22 h20 =>
      by simp [decodeF32, hc, h25, h4, decodeF32Lsr, h24, h21, h22, h20]
  | f32LdrbLsi f =>
    exact F32.LSI.roundTrips (mk := .f32LdrbLsi) (b := 1) (l := 1) (Bool.and_eq_true_iff.1 hwf).1 (by decide)
      (by decide) (Bool.and_eq_true_iff.1 hwf).2 rfl fun w hc h25 hidx h22 h20 =>
      by simp [decodeF32, hc, h25, decodeF32Lsi, hidx, h22, h20]
  | f32LdrbLsr f =>
    exact F32.LSR.roundTrips (mk := .f32LdrbLsr) (b := 1) (l := 1) (Bool.and_eq_true_iff.1 hwf).1 (by decide)
      (by decide) (Bool.and_eq_true_iff.1 hwf).2 rfl fun w hc h25 h4 hidx h22 h20 =>
      by simp [decodeF32, hc, h25, h4, decodeF32Lsr, hidx, h22, h20]
  | f32LdrbtLsi f =>
    exact F32.LSIT.roundTrips (mk := .f32LdrbtLsi) (b := 1) (l := 1) hwf (by decide)
      (by decide) rfl fun w hc h25 h24 h21 h22 h20 =>
      by simp [decodeF32, hc, h25, decodeF32Lsi, h24, h21, h22, h20]
  | f32LdrbtLsr f =>
    exact F32.LSRT.roundTrips (mk := .f32LdrbtLsr) (b := 1) (l := 1) hwf (by decide)
      (by decide) rfl fun w hc h25 h4 h24 h21 h22 h20 =>
      by simp [decodeF32, hc, h25, h4, decodeF32Lsr, h24, h21, h22, h20]
  | f32StmLsm f =>
    exact F32.LSM.roundTrips (mk := .f32StmLsm) (l := 0) hwf (by decide) rfl fun w hc h25 h20 =>
      by simp [decodeF32, hc, h25, h20]
  | f32LdmLsm f =>
    exact F32.LSM.roundTrips (mk := .f32LdmLsm) (l := 1) hwf (by decide) rfl fun w hc h25 h20 =>
      by simp [decodeF32, hc, h25, h20]
  | f32BBr f =>
    exact F32.BR.roundTrips (mk := .f32BBr) (l := 0) hwf (by decide) rfl fun w hc h25 h24 =>
      by simp [decodeF32, hc, h25, h24]
  | f32BlBr f =>
    exact F32.BR.roundTrips (mk := .f32BlBr) (l := 1) hwf (by decide) rfl fun w hc h25 h24 =>
      by simp [decodeF32, hc, h25, h24]
  | f32BlxBlxi f =>
    exact F32.BLXI.roundTrips (mk := .f32BlxBlxi) rfl fun w h28 h25 =>
      by simp [decodeF32, h28, h25]
  | f32VaddVop f =>
    exact F32.VOP.roundTrips (mk := .f32VaddVop) (x := 0) (op := 0) hwf (by decide)
      (by decide) rfl fun w hc h25 h24 h9 h4 h8 h20 =>
      by simp [decodeF32, hc, h25, decodeF32Class7, h24, h9, h4, decodeF32Vop, h8, h20]
  | f32VsubVop f =>
    exact F32.VOP.roundTrips (mk := .f32VsubVop) (x := 0) (op := 1) hwf (by decide)
      (by decide) rfl fun w hc h25 h24 h9 h4 h8 h20 =>
      by simp [decodeF32, hc, h25, decodeF32Class7, h24, h9, h4, decodeF32Vop, h8, h20]
  | f32VqaddVop f =>
    exact F32.VOP.roundTrips (mk := .f32VqaddVop) (x := 0) (op := 2) hwf (by decide)
      (by decide) rfl fun w hc h25 h24 h9 h4 h8 h20 =>
      by simp [decodeF32, hc, h25, decodeF32Class7, h24, h9, h4, decodeF32Vop, h8, h20]
  | f32VqsubVop f =>
    exact F32.VOP.roundTrips (mk := .f32VqsubVop) (x := 0) (op := 3) hwf (by decide)
      (by decide) rfl fun w hc h25 h24 h9 h4 h8 h20 =>
      by simp [decodeF32, hc, h25, decodeF32Class7, h24, h9, h4, decodeF32Vop, h8, h20]
  | f32VshrVop f =>
    exact F32.VOP.roundTrips (mk := .f32VshrVop) (x := 0) (op := 4) hwf (by decide)
      (by decide) rfl fun w hc h25 h24 h9 h4 h8 h20 =>
      by simp [decodeF32, hc, h25, decodeF32Class7, h24, h9, h4, decodeF32Vop, h8, h20]
  | f32VrshrVop f =>
    exact F32.VOP.roundTrips (mk := .f32VrshrVop) (x := 0) (op := 5) hwf (by decide)
      (by decide) rfl fun w hc h25 h24 h9 h4 h8 h20 =>
      by simp [decodeF32, hc, h25, decodeF32Class7, h24, h9, h4, decodeF32Vop, h8, h20]
  | f32VmullbVop f =>
    exact F32.VOP.roundTrips (mk := .f32VmullbVop) (x := 0) (op := 6) hwf (by decide)
      (by decide) rfl fun w hc h25 h24 h9 h4 h8 h20 =>
      by simp [decodeF32, hc, h25, decodeF32Class7, h24, h9, h4, decodeF32Vop, h8, h20]
  | f32VmulltVop f =>
    exact F32.VOP.roundTrips (mk := .f32VmulltVop) (x := 0) (op := 7) hwf (by decide)
      (by decide) rfl fun w hc h25 h24 h9 h4 h8 h20 =>
      by simp [decodeF32, hc, h25, decodeF32Class7, h24, h9, h4, decodeF32Vop, h8, h20]
  | f32VdotVop f =>
    exact F32.VOP.roundTrips (mk := .f32VdotVop) (x := 0) (op := 8) hwf (by decide)
      (by decide) rfl fun w hc h25 h24 h9 h4 h8 h20 =>
      by simp [decodeF32, hc, h25, decodeF32Class7, h24, h9, h4, decodeF32Vop, h8, h20]
  | f32VdotaVop f =>
    exact F32.VOP.roundTrips (mk := .f32VdotaVop) (x := 0) (op := 9) hwf (by decide)
      (by decide) rfl fun w hc h25 h24 h9 h4 h8 h20 =>
      by simp [decodeF32, hc, h25, decodeF32Class7, h24, h9, h4, decodeF32Vop, h8, h20]
  | f32VmulhVop f =>
    exact F32.VOP.roundTrips (mk := .f32VmulhVop) (x := 0) (op := 10) hwf (by decide)
      (by decide) rfl fun w hc h25 h24 h9 h4 h8 h20 =>
      by simp [decodeF32, hc, h25, decodeF32Class7, h24, h9, h4, decodeF32Vop, h8, h20]
  | f32VrmulhVop f =>
    exact F32.VOP.roundTrips (mk := .f32VrmulhVop) (x := 0) (op := 11) hwf (by decide)
      (by decide) rfl fun w hc h25 h24 h9 h4 h8 h20 =>
      by simp [decodeF32, hc, h25, decodeF32Class7, h24, h9, h4, decodeF32Vop, h8, h20]
  | f32VpackVop f =>
    exact F32.VOP.roundTrips (mk := .f32VpackVop) (x := 0) (op := 12) hwf (by decide)
      (by decide) rfl fun w hc h25 h24 h9 h4 h8 h20 =>
      by simp [decodeF32, hc, h25, decodeF32Class7, h24, h9, h4, decodeF32Vop, h8, h20]
  | f32VqpackVop f =>
    exact F32.VOP.roundTrips (mk := .f32VqpackVop) (x := 0) (op := 13) hwf (by decide)
      (by decide) rfl fun w hc h25 h24 h9 h4 h8 h20 =>
      by simp [decodeF32, hc, h25, decodeF32Class7, h24, h9, h4, decodeF32Vop, h8, h20]
  | f32VunpkbVop f =>
    exact F32.VOP.roundTrips (mk := .f32VunpkbVop) (x := 0) (op := 14) hwf (by decide)
      (by decide) rfl fun w hc h25 h24 h9 h4 h8 h20 =>
      by simp [decodeF32, hc, h25, decodeF32Class7, h24, h9, h4, decodeF32Vop, h8, h20]
  | f32VunpktVop f =>
    exact F32.VOP.roundTrips (mk := .f32VunpktVop) (x := 0) (op := 15) hwf (by decide)
      (by decide) rfl fun w hc h25 h24 h9 h4 h8 h20 =>
      by simp [decodeF32, hc, h25, decodeF32Class7, h24, h9, h4, decodeF32Vop, h8, h20]
  | f32VzipbVop f =>
    exact F32.VOP.roundTrips (mk := .f32VzipbVop) (x := 1) (op := 0) hwf (by decide)
      (by decide) rfl fun w hc h25 h24 h9 h4 h8 h20 =>
      by simp [decodeF32, hc, h25, decodeF32Class7, h24, h9, h4, decodeF32Vop, h8, h20]
  | f32VziptVop f =>
    exact F32.VOP.roundTrips (mk := .f32VziptVop) (x := 1) (op := 1) hwf (by decide)
      (by decide) rfl fun w hc h25 h24 h9 h4 h8 h20 =>
      by simp [decodeF32, hc, h25, decodeF32Class7, h24, h9, h4, decodeF32Vop, h8, h20]
  | f32VandVop f =>
    exact F32.VOP.roundTrips (mk := .f32VandVop) (x := 1) (op := 2) hwf (by decide)
      (by decide) rfl fun w hc h25 h24 h9 h4 h8 h20 =>
      by simp [decodeF32, hc, h25, decodeF32Class7, h24, h9, h4, decodeF32Vop, h8, h20]
  | f32VorrVop f =>
    exact F32.VOP.roundTrips (mk := .f32VorrVop) (x := 1) (op := 3) hwf (by decide)
      (by decide) rfl fun w hc h25 h24 h9 h4 h8 h20 =>
      by simp [decodeF32, hc, h25, decodeF32Class7, h24, h9, h4, decodeF32Vop, h8, h20]
  | f32VeorVop f =>
    exact F32.VOP.roundTrips (mk := .f32VeorVop) (x := 1) (op := 4) hwf (by decide)
      (by decide) rfl fun w hc h25 h24 h9 h4 h8 h20 =>
      by simp [decodeF32, hc, h25, decodeF32Class7, h24, h9, h4, decodeF32Vop, h8, h20]
  | f32VceqVop f =>
    exact F32.VOP.roundTrips (mk := .f32VceqVop) (x := 1) (op := 5) hwf (by decide)
      (by decide) rfl fun w hc h25 h24 h9 h4 h8 h20 =>
      by simp [decodeF32, hc, h25, decodeF32Class7, h24, h9, h4, decodeF32Vop, h8, h20]
  | f32VcgtVop f =>
    exact F32.VOP.roundTrips (mk := .f32VcgtVop) (x := 1) (op := 6) hwf (by decide)
      (by decide) rfl fun w hc h25 h24 h9 h4 h8 h20 =>
      by simp [decodeF32, hc, h25, decodeF32Class7, h24, h9, h4, decodeF32Vop, h8, h20]
  | f32VcgeVop f =>
    exact F32.VOP.roundTrips (mk := .f32VcgeVop) (x := 1) (op := 7) hwf (by decide)
      (by decide) rfl fun w hc h25 h24 h9 h4 h8 h20 =>
      by simp [decodeF32, hc, h25, decodeF32Class7, h24, h9, h4, decodeF32Vop, h8, h20]
  | f32VfceqVop f =>
    exact F32.VOP.roundTrips (mk := .f32VfceqVop) (x := 1) (op := 8) hwf (by decide)
      (by decide) rfl fun w hc h25 h24 h9 h4 h8 h20 =>
      by simp [decodeF32, hc, h25, decodeF32Class7, h24, h9, h4, decodeF32Vop, h8, h20]
  | f32VfcgeVop f =>
    exact F32.VOP.roundTrips (mk := .f32VfcgeVop) (x := 1) (op := 9) hwf (by decide)
      (by decide) rfl fun w hc h25 h24 h9 h4 h8 h20 =>
      by simp [decodeF32, hc, h25, decodeF32Class7, h24, h9, h4, decodeF32Vop, h8, h20]
  | f32VfcgtVop f =>
    exact F32.VOP.roundTrips (mk := .f32VfcgtVop) (x := 1) (op := 10) hwf (by decide)
      (by decide) rfl fun w hc h25 h24 h9 h4 h8 h20 =>
      by simp [decodeF32, hc, h25, decodeF32Class7, h24, h9, h4, decodeF32Vop, h8, h20]
  | f32VfacgeVop f =>
    exact F32.VOP.roundTrips (mk := .f32VfacgeVop) (x := 1) (op := 11) hwf (by decide)
      (by decide) rfl fun w hc h25 h24 h9 h4 h8 h20 =>
      by simp [decodeF32, hc, h25, decodeF32Class7, h24, h9, h4, decodeF32Vop, h8, h20]
  | f32VfacgtVop f =>
    exact F32.VOP.roundTrips (mk := .f32VfacgtVop) (x := 1) (op := 12) hwf (by decide)
      (by decide) rfl fun w hc h25 h24 h9 h4 h8 h20 =>
      by simp [decodeF32, hc, h25, decodeF32Class7, h24, h9, h4, decodeF32Vop, h8, h20]
  | f32VfcmpVop f =>
    exact F32.VOP.roundTrips (mk := .f32VfcmpVop) (x := 1) (op := 13) hwf (by decide)
      (by decide) rfl fun w hc h25 h24 h9 h4 h8 h20 =>
      by simp [decodeF32, hc, h25, decodeF32Class7, h24, h9, h4, decodeF32Vop, h8, h20]
  | f32VfcmpeVop f =>
    exact F32.VOP.roundTrips (mk := .f32VfcmpeVop) (x := 1) (op := 14) hwf (by decide)
      (by decide) rfl fun w hc h25 h24 h9 h4 h8 h20 =>
      by simp [decodeF32, hc, h25, decodeF32Class7, h24, h9, h4, decodeF32Vop, h8, h20]
  | f32VmovtvVxfer f =>
    exact F32.VXFER.roundTrips (mk := .f32VmovtvVxfer) (l := 0) hwf (by decide) rfl fun w hc h25 h22 h21 h4 h20 =>
      by simp [decodeF32, hc, h25, decodeF32Class6, h22, h21, h4, h20]
  | f32VmovfvVxfer f =>
    exact F32.VXFER.roundTrips (mk := .f32VmovfvVxfer) (l := 1) hwf (by decide) rfl fun w hc h25 h22 h21 h4 h20 =>
      by simp [decodeF32, hc, h25, decodeF32Class6, h22, h21, h4, h20]
  | f32VmsrVctl f =>
    exact F32.VCTL.roundTrips (mk := .f32VmsrVctl) (l := 0) hwf (by decide) rfl fun w hc h25 h24 h4 h8 h0 h21 h20 =>
      by simp [decodeF32, hc, h25, decodeF32Class7, h24, h4, h8, h0, h21, h20]
  | f32VmrsVctl f =>
    exact F32.VCTL.roundTrips (mk := .f32VmrsVctl) (l := 1) hwf (by decide) rfl fun w hc h25 h24 h4 h8 h0 h21 h20 =>
      by simp [decodeF32, hc, h25, decodeF32Class7, h24, h4, h8, h0, h21, h20]
  | f32VstrVls f =>
    exact F32.VLS.roundTrips (mk := .f32VstrVls) (l := 0) (Bool.and_eq_true_iff.1 hwf).1 (by decide)
      (Bool.and_eq_true_iff.1 hwf).2 rfl fun w hc h25 h8 h22 hidx h20 =>
      by simp [decodeF32, hc, h25, decodeF32Class6, h8, h22, hidx, h20]
  | f32VldrVls f =>
    exact F32.VLS.roundTrips (mk := .f32VldrVls) (l := 1) (Bool.and_eq_true_iff.1 hwf).1 (by decide)
      (Bool.and_eq_true_iff.1 hwf).2 rfl fun w hc h25 h8 h22 hidx h20 =>
      by simp [decodeF32, hc, h25, decodeF32Class6, h8, h22, hidx, h20]
  | f32SyswSys f =>
    exact F32.SYS.roundTrips (mk := .f32SyswSys) (l := 0) hwf (by decide) rfl fun w hc h25 h24 h4 h8 h20 =>
      by simp [decodeF32, hc, h25, decodeF32Class7, h24, h4, h8, h20]
  | f32SysrSys f =>
    exact F32.SYS.roundTrips (mk := .f32SysrSys) (l := 1) hwf (by decide) rfl fun w hc h25 h24 h4 h8 h20 =>
      by simp [decodeF32, hc, h25, decodeF32Class7, h24, h4, h8, h20]
  | _ => exact nomatch hmode

end Sys2Proof
end

section
/-! PROOFS. Decoding an encoded W64 instruction
    (30_encoding.md R123 to R128), in the manner of the other two encodings. -/

namespace Sys2Proof

theorem roundTrips_w64 {F : Type} {f : F} {mk : F → Instr} {ofWord : Nat → F} {fs : List (Nat × Nat)}
    (hword : encode (mk f) = packed fs) (hwidth : packedWidth fs = 32) (hof : ofWord (packed fs) = f)
    (hdecode : decodeW64 (packed fs) = some (mk (ofWord (packed fs)))) : RoundTrips .w64 (mk f) := by
  rw [hof] at hdecode
  refine ⟨?_, by simp only [hword, decodeWord, hdecode]⟩
  rw [hword]
  exact lt_of_lt_of_eq (packed_lt fs) (by rw [hwidth]; rfl)

/-- A field inside one whose value is known. -/
theorem fld_inside {w lo n v lo' n' : Nat} (h : fld w lo n = v) (hlo : lo ≤ lo') (hhi : lo' + n' ≤ lo + n) :
    fld w lo' n' = v / 2 ^ (lo' - lo) % 2 ^ n' := by
  subst h
  obtain ⟨k, rfl⟩ := Nat.exists_eq_add_of_le hlo
  obtain ⟨m, rfl⟩ := Nat.exists_eq_add_of_le (show k + n' ≤ n by omega)
  rw [fld, fld, Nat.add_sub_cancel_left, pow_add, ← Nat.div_div_eq_div_mul, pow_add, pow_add, mul_assoc,
    Nat.mod_mul_right_div_self, Nat.mod_mul_right_mod]

theorem decodeW64_of_adr {w : Nat} (h : fld w 24 5 = 16) :
    decodeW64 w = if fld w 31 1 = 0 then some (.w64AdrAdr (.ofWord w)) else some (.w64AdrpAdr (.ofWord w)) := by
  have hclass : fld w 25 4 = 8 := fld_inside h (by decide) (by decide)
  have himm : fld w 23 3 = 0 ∨ fld w 23 3 = 1 := by simp only [fld] at *; omega
  rcases himm with himm | himm <;> simp only [decodeW64, hclass, decodeW64Imm, himm]

theorem decodeW64_of_branch {w : Nat} (h : fld w 26 3 = 5) : decodeW64 w = decodeW64Branch w := by
  have hclass : fld w 25 4 = 10 ∨ fld w 25 4 = 11 := by simp only [fld] at *; omega
  rcases hclass with hclass | hclass <;> simp only [decodeW64, hclass]

/-- The words of `CBZ`, `CBNZ`, `TBZ` and `TBNZ` are none of the branches tested before them. -/
theorem not_branch_of_compare {w : Nat} (h : fld w 26 5 = 13) : fld w 26 6 ≠ 5 ∧ fld w 26 6 ≠ 0x25 ∧ fld w 24 8 ≠ 0x54 := by
  simp only [fld] at *
  omega

theorem word_ne_of_field {w v x : Nat} (h : fld w 5 27 = v) (hx : x / 2 ^ 5 % 2 ^ 27 ≠ v) : fld w 0 32 ≠ x :=
  fun e => hx ((fld_inside e (by decide) (by decide)).symm.trans h)

theorem decodeW64_of_pair {w : Nat} (h : fld w 25 6 = 0x14) (hidx : fld w 23 2 ≠ 0) :
    decodeW64 w = if fld w 22 1 = 0 then some (.w64StpLsp (.ofWord w)) else some (.w64LdpLsp (.ofWord w)) := by
  have hclass : fld w 25 4 = 4 := fld_inside h (by decide) (by decide)
  have hother : fld w 24 6 ≠ 0x39 ∧ fld w 24 6 ≠ 0x38 ∧ fld w 24 6 ≠ 0x18 := by simp only [fld] at *; omega
  obtain ⟨h39, h38, h18⟩ := hother
  simp only [decodeW64, hclass, decodeW64LoadStore, if_neg h39, if_neg h38, if_neg h18, if_pos (And.intro h hidx)]

theorem shiftAmountOk_field {sf : Bool} {n : BitVec 6} (h : shiftAmountOk sf n = true) :
    ¬(sf.toNat % 2 = 0 ∧ n.toNat / 32 % 2 = 1) := by
  have hlt := Machine.shiftAmountOk_lt h
  cases sf
  · simp [Machine.widthOf] at hlt ⊢; omega
  · simp

theorem halfwordOk_field {sf : Bool} {n : BitVec 2} (h : halfwordOk sf n = true) :
    ¬(sf.toNat % 2 = 0 ∧ n.toNat / 2 % 2 = 1) := by
  revert sf n
  decide

theorem code_field_ne_three {k : ShiftKind} (h : (k != .ror) = true) : k.code % 2 ^ 2 ≠ 3 := by
  cases k with
  | ror => exact absurd h (by decide)
  | _ => decide

theorem toNat_mod_ne_zero {n : Nat} {x : BitVec n} (h : (x != 0) = true) : x.toNat % 2 ^ n ≠ 0 := by
  rw [Nat.mod_eq_of_lt x.isLt]
  exact fun e => bne_iff_ne.1 h (BitVec.eq_of_toNat_eq (by simpa using e))

/-! ### Immediate operands, branches -/

def W64.ASI.fields (f : W64.ASI) (op : Nat) : List (Nat × Nat) :=
  [(5, f.rd), (5, f.rn), (12, f.imm12.toNat), (1, f.sh.toNat), (6, 0x22), (2, op), (1, f.sf.toNat)]

theorem W64.ASI.roundTrips {f : W64.ASI} {mk : W64.ASI → Instr} {op : Nat} (hop : op < 4)
    (hword : encode (mk f) = 0x11 * 2 ^ 24 + op * 2 ^ 29 + f.toWord)
    (hdecode : ∀ w, fld w 23 6 = 0x22 → fld w 29 2 = op → decodeW64 w = some (mk (.ofWord w))) :
    RoundTrips .w64 (mk f) :=
  roundTrips_w64 (fs := f.fields op) (hword.trans (by simp only [toWord, packed, fields, toNat_mod_two]; omega)) rfl
    (by simp [ofWord, fields])
    (hdecode _ (by simp [fields]) (by simpa [fields] using Nat.mod_eq_of_lt hop))

def W64.MOVW.fields (f : W64.MOVW) (op : Nat) : List (Nat × Nat) :=
  [(5, f.rd), (16, f.imm16.toNat), (2, f.hw.toNat), (6, 0x25), (2, op), (1, f.sf.toNat)]

theorem W64.MOVW.roundTrips {f : W64.MOVW} {mk : W64.MOVW → Instr} {op : Nat} (hop : op < 4)
    (hhw : halfwordOk f.sf f.hw = true)
    (hword : encode (mk f) = 0x25 * 2 ^ 23 + op * 2 ^ 29 + f.toWord)
    (hdecode : ∀ w, fld w 23 6 = 0x25 → ¬(fld w 31 1 = 0 ∧ fld w 22 1 = 1) → fld w 29 2 = op → decodeW64 w = some (mk
      (.ofWord w))) :
    RoundTrips .w64 (mk f) :=
  roundTrips_w64 (fs := f.fields op) (hword.trans (by simp only [toWord, packed, fields, toNat_mod_two]; omega)) rfl
    (by simp [ofWord, fields])
    (hdecode _ (by simp [fields]) (by simpa [fields] using halfwordOk_field hhw)
      (by simpa [fields] using Nat.mod_eq_of_lt hop))

def W64.ADR.fields (f : W64.ADR) (op : Nat) : List (Nat × Nat) :=
  [(5, f.rd), (19, f.imm21.toNat / 4), (5, 16), (2, f.imm21.toNat % 4), (1, op)]

theorem W64.ADR.roundTrips {f : W64.ADR} {mk : W64.ADR → Instr} {op : Nat} (hop : op < 2)
    (hword : encode (mk f) = 2 ^ 28 + op * 2 ^ 31 + f.toWord)
    (hdecode : ∀ w, fld w 24 5 = 16 → fld w 31 1 = op → decodeW64 w = some (mk (.ofWord w))) :
    RoundTrips .w64 (mk f) :=
  roundTrips_w64 (fs := f.fields op) (hword.trans (by simp only [toWord, packed, fields]; omega)) rfl
    (by
      obtain ⟨imm21, rd⟩ := f
      have himm : imm21.toNat / 4 % 2 ^ 19 * 4 + imm21.toNat % 4 % 2 ^ 2 = imm21.toNat := by omega
      simpa [ofWord, fields] using congrArg (BitVec.ofNat 21) himm)
    (hdecode _ (by simp [fields]) (by simpa [fields] using Nat.mod_eq_of_lt hop))

def W64.BI.fields (f : W64.BI) (l : Nat) : List (Nat × Nat) :=
  [(26, f.imm26.toNat), (6, l * 32 + 5)]

theorem W64.BI.roundTrips {f : W64.BI} {mk : W64.BI → Instr} {l : Nat} (hl : l < 2)
    (hword : encode (mk f) = 5 * 2 ^ 26 + l * 2 ^ 31 + f.toWord)
    (hdecode : ∀ w, fld w 26 6 = l * 32 + 5 → decodeW64 w = some (mk (.ofWord w))) :
    RoundTrips .w64 (mk f) :=
  roundTrips_w64 (fs := f.fields l) (hword.trans (by simp only [toWord, packed, fields]; omega)) rfl
    (by simp [ofWord, fields])
    (hdecode _ (by simp [fields]; omega))

def W64.BC.fields (f : W64.BC) : List (Nat × Nat) :=
  [(4, f.cond.toNat), (1, 0), (19, f.imm19.toNat), (8, 0x54)]

theorem W64.BC.roundTrips {f : W64.BC} {mk : W64.BC → Instr}
    (hword : encode (mk f) = 0x54 * 2 ^ 24 + f.toWord)
    (hdecode : ∀ w, fld w 24 8 = 0x54 → fld w 4 1 = 0 → decodeW64 w = some (mk (.ofWord w))) :
    RoundTrips .w64 (mk f) :=
  roundTrips_w64 (fs := f.fields) (hword.trans (by simp only [toWord, packed, fields]; omega)) rfl
    (by simp [ofWord, fields])
    (hdecode _ (by simp [fields]) (by simp [fields]))

def W64.CB.fields (f : W64.CB) (op : Nat) : List (Nat × Nat) :=
  [(5, f.rt), (19, f.imm19.toNat), (7, op), (1, f.sf.toNat)]

theorem W64.CB.roundTrips {f : W64.CB} {mk : W64.CB → Instr} {op : Nat} (hop : op < 128)
    (hword : encode (mk f) = op * 2 ^ 24 + f.toWord)
    (hdecode : ∀ w, fld w 24 7 = op → decodeW64 w = some (mk (.ofWord w))) :
    RoundTrips .w64 (mk f) :=
  roundTrips_w64 (fs := f.fields op) (hword.trans (by simp only [toWord, packed, fields, toNat_mod_two]; omega)) rfl
    (by simp [ofWord, fields])
    (hdecode _ (by simpa [fields] using Nat.mod_eq_of_lt hop))

def W64.TB.fields (f : W64.TB) (op : Nat) : List (Nat × Nat) :=
  [(5, f.rt), (14, f.imm14.toNat), (5, f.bit.toNat % 32), (7, op), (1, f.bit.toNat / 32)]

theorem W64.TB.roundTrips {f : W64.TB} {mk : W64.TB → Instr} {op : Nat} (hop : op < 128)
    (hword : encode (mk f) = op * 2 ^ 24 + f.toWord)
    (hdecode : ∀ w, fld w 24 7 = op → decodeW64 w = some (mk (.ofWord w))) :
    RoundTrips .w64 (mk f) :=
  roundTrips_w64 (fs := f.fields op) (hword.trans (by simp only [toWord, packed, fields]; omega)) rfl
    (by
      obtain ⟨bit, imm14, rt⟩ := f
      have hbit : bit.toNat / 32 % 2 ^ 1 * 32 + bit.toNat % 32 % 2 ^ 5 = bit.toNat := by omega
      simpa [ofWord, fields] using congrArg (BitVec.ofNat 6) hbit)
    (hdecode _ (by simpa [fields] using Nat.mod_eq_of_lt hop))

def W64.BREG.fields (f : W64.BREG) (op : Nat) : List (Nat × Nat) :=
  [(5, 0), (5, f.rn), (22, op)]

theorem W64.BREG.roundTrips {f : W64.BREG} {mk : W64.BREG → Instr} {op : Nat} (hop : op < 2 ^ 22)
    (hword : encode (mk f) = op * 2 ^ 10 + f.toWord)
    (hdecode : ∀ w, fld w 10 22 = op → fld w 0 5 = 0 → decodeW64 w = some (mk (.ofWord w))) :
    RoundTrips .w64 (mk f) :=
  roundTrips_w64 (fs := f.fields op) (hword.trans (by simp only [toWord, packed, fields]; omega)) rfl
    (by simp [ofWord, fields])
    (hdecode _ (by simpa [fields] using Nat.mod_eq_of_lt hop) (by simp [fields]))

def W64.SYS.fields (f : W64.SYS) (op : Nat) : List (Nat × Nat) :=
  [(5, f.rt), (27, op)]

theorem W64.SYS.roundTrips {f : W64.SYS} {mk : W64.SYS → Instr} {op : Nat} (hop : op < 2 ^ 27)
    (hword : encode (mk f) = op * 2 ^ 5 + f.toWord)
    (hdecode : ∀ w, fld w 5 27 = op → decodeW64 w = some (mk (.ofWord w))) :
    RoundTrips .w64 (mk f) :=
  roundTrips_w64 (fs := f.fields op) (hword.trans (by simp only [toWord, packed, fields]; omega)) rfl
    (by simp [ofWord, fields])
    (hdecode _ (by simpa [fields] using Nat.mod_eq_of_lt hop))

/-! ### Register operands -/

def W64.ASR.fields (f : W64.ASR) (op : Nat) : List (Nat × Nat) :=
  [(5, f.rd), (5, f.rn), (6, f.imm6.toNat), (5, f.rm), (1, 0), (2, f.shift.code), (5, 11), (2, op), (1, f.sf.toNat)]

theorem W64.ASR.roundTrips {f : W64.ASR} {mk : W64.ASR → Instr} {op : Nat} (hop : op < 4) (hshift :
    (f.shift != .ror) = true) (hamount : shiftAmountOk f.sf f.imm6 = true)
    (hword : encode (mk f) = 0xB * 2 ^ 24 + op * 2 ^ 29 + f.toWord)
    (hdecode : ∀ w, fld w 24 5 = 11 → fld w 21 1 = 0 → fld w 22 2 ≠ 3 → ¬(fld w 31 1 = 0 ∧ fld w 15 1 = 1) →
      fld w 29 2 = op → decodeW64 w = some (mk (.ofWord w))) :
    RoundTrips .w64 (mk f) :=
  roundTrips_w64 (fs := f.fields op) (hword.trans
    (by simp only [toWord, packed, fields, toNat_mod_two, code_mod]; omega)) rfl
    (by simp [ofWord, fields])
    (hdecode _ (by simp [fields]) (by simp [fields]) (by simpa [fields] using code_field_ne_three hshift)
      (by simpa [fields] using shiftAmountOk_field hamount) (by simpa [fields] using Nat.mod_eq_of_lt hop))

def W64.LOGR.fields (f : W64.LOGR) (op n : Nat) : List (Nat × Nat) :=
  [(5, f.rd), (5, f.rn), (6, f.imm6.toNat), (5, f.rm), (1, n), (2, f.shift.code), (5, 10), (2, op), (1, f.sf.toNat)]

theorem W64.LOGR.roundTrips {f : W64.LOGR} {mk : W64.LOGR → Instr} {op n : Nat} (hop : op < 4) (hn : n < 2)
    (hamount : shiftAmountOk f.sf f.imm6 = true)
    (hword : encode (mk f) = 0xA * 2 ^ 24 + op * 2 ^ 29 + n * 2 ^ 21 + f.toWord)
    (hdecode : ∀ w, fld w 24 5 = 10 → ¬(fld w 31 1 = 0 ∧ fld w 15 1 = 1) → fld w 29 2 = op → fld w 21 1 = n →
      decodeW64 w = some (mk (.ofWord w))) :
    RoundTrips .w64 (mk f) :=
  roundTrips_w64 (fs := f.fields op n) (hword.trans
    (by simp only [toWord, packed, fields, toNat_mod_two, code_mod]; omega)) rfl
    (by simp [ofWord, fields])
    (hdecode _ (by simp [fields]) (by simpa [fields] using shiftAmountOk_field hamount)
      (by simpa [fields] using Nat.mod_eq_of_lt hop) (by simpa [fields] using Nat.mod_eq_of_lt hn))

def W64.CSEL.fields (f : W64.CSEL) (op o2 : Nat) : List (Nat × Nat) :=
  [(5, f.rd), (5, f.rn), (1, o2), (1, 0), (4, f.cond.toNat), (5, f.rm), (8, 0xD4), (1, 0), (1, op), (1, f.sf.toNat)]

theorem W64.CSEL.roundTrips {f : W64.CSEL} {mk : W64.CSEL → Instr} {op o2 : Nat} (hop : op < 2) (ho2 : o2 < 2)
    (hword : encode (mk f) = 0xD4 * 2 ^ 21 + op * 2 ^ 30 + o2 * 2 ^ 10 + f.toWord)
    (hdecode : ∀ w, fld w 21 8 = 0xD4 → fld w 29 1 = 0 → fld w 11 1 = 0 → fld w 30 1 = op → fld w 10 1 = o2 →
      decodeW64 w = some (mk (.ofWord w))) :
    RoundTrips .w64 (mk f) :=
  roundTrips_w64 (fs := f.fields op o2) (hword.trans
    (by simp only [toWord, packed, fields, toNat_mod_two]; omega)) rfl
    (by simp [ofWord, fields])
    (hdecode _ (by simp [fields]) (by simp [fields]) (by simp [fields]) (by simpa [fields] using Nat.mod_eq_of_lt hop)
      (by simpa [fields] using Nat.mod_eq_of_lt ho2))

def W64.DP2.fields (f : W64.DP2) (op : Nat) : List (Nat × Nat) :=
  [(5, f.rd), (5, f.rn), (6, op), (5, f.rm), (10, 0xD6), (1, f.sf.toNat)]

theorem W64.DP2.roundTrips {f : W64.DP2} {mk : W64.DP2 → Instr} {op : Nat} (hop : op < 64)
    (hword : encode (mk f) = 0xD6 * 2 ^ 21 + op * 2 ^ 10 + f.toWord)
    (hdecode : ∀ w, fld w 21 10 = 0xD6 → fld w 10 6 = op → decodeW64 w = some (mk (.ofWord w))) :
    RoundTrips .w64 (mk f) :=
  roundTrips_w64 (fs := f.fields op) (hword.trans (by simp only [toWord, packed, fields, toNat_mod_two]; omega)) rfl
    (by simp [ofWord, fields])
    (hdecode _ (by simp [fields]) (by simpa [fields] using Nat.mod_eq_of_lt hop))

def W64.DP3.fields (f : W64.DP3) (op31 o0 : Nat) : List (Nat × Nat) :=
  [(5, f.rd), (5, f.rn), (5, f.ra), (1, o0), (5, f.rm), (10, 0xD8 + op31), (1, f.sf.toNat)]

theorem W64.DP3.roundTrips {f : W64.DP3} {mk : W64.DP3 → Instr} {op31 o0 : Nat} (hop : op31 < 8) (ho0 : o0 < 2)
    (hword : encode (mk f) = 0x1B * 2 ^ 24 + op31 * 2 ^ 21 + o0 * 2 ^ 15 + f.toWord)
    (hdecode : ∀ w, fld w 21 10 = 0xD8 + op31 → fld w 15 1 = o0 → decodeW64 w = some (mk (.ofWord w))) :
    RoundTrips .w64 (mk f) :=
  roundTrips_w64 (fs := f.fields op31 o0) (hword.trans
    (by simp only [toWord, packed, fields, toNat_mod_two]; omega)) rfl
    (by simp [ofWord, fields])
    (hdecode _ (by simp [fields]; omega) (by simpa [fields] using Nat.mod_eq_of_lt ho0))

def W64.DP3L.fields (f : W64.DP3L) (op31 o0 : Nat) : List (Nat × Nat) :=
  [(5, f.rd), (5, f.rn), (5, f.ra), (1, o0), (5, f.rm), (10, 0xD8 + op31), (1, 1)]

theorem W64.DP3L.roundTrips {f : W64.DP3L} {mk : W64.DP3L → Instr} {op31 o0 : Nat} (hop : op31 < 8) (ho0 : o0 < 2)
    (hword : encode (mk f) = 0x9B * 2 ^ 24 + op31 * 2 ^ 21 + o0 * 2 ^ 15 + f.toWord)
    (hdecode : ∀ w, fld w 21 10 = 0xD8 + op31 → fld w 15 1 = o0 → fld w 31 1 = 1 → decodeW64 w = some (mk
      (.ofWord w))) :
    RoundTrips .w64 (mk f) :=
  roundTrips_w64 (fs := f.fields op31 o0) (hword.trans (by simp only [toWord, packed, fields]; omega)) rfl
    (by simp [ofWord, fields])
    (hdecode _ (by simp [fields]; omega) (by simpa [fields] using Nat.mod_eq_of_lt ho0) (by simp [fields]))

def W64.MULH.fields (f : W64.MULH) (op31 : Nat) : List (Nat × Nat) :=
  [(5, f.rd), (5, f.rn), (5, 0), (1, 0), (5, f.rm), (10, 0xD8 + op31), (1, 1)]

theorem W64.MULH.roundTrips {f : W64.MULH} {mk : W64.MULH → Instr} {op31 : Nat} (hop : op31 < 8)
    (hword : encode (mk f) = 0x9B * 2 ^ 24 + op31 * 2 ^ 21 + f.toWord)
    (hdecode : ∀ w, fld w 21 10 = 0xD8 + op31 → fld w 15 1 = 0 → fld w 31 1 = 1 → decodeW64 w = some (mk
      (.ofWord w))) :
    RoundTrips .w64 (mk f) :=
  roundTrips_w64 (fs := f.fields op31) (hword.trans (by simp only [toWord, packed, fields]; omega)) rfl
    (by simp [ofWord, fields])
    (hdecode _ (by simp [fields]; omega) (by simp [fields]) (by simp [fields]))

/-! ### Loads and stores -/

/-- Bits 10 to 21 of a single load or store, by its address form. -/
def W64.Addr.fields : W64.Addr → List (Nat × Nat)
  | .unsigned imm12 => [(12, imm12.toNat)]
  | .signed imm9 idx => [(2, idx.toNat), (9, imm9.toNat), (1, 0)]
  | .reg rm option s => [(2, 2), (1, s.toNat), (3, option.toNat), (5, rm), (1, 1)]

/-- `I[29:24]` of an address form. -/
def W64.Addr.addrClass : W64.Addr → Nat
  | .unsigned _ => 0x39
  | _ => 0x38

def W64.LS.fields (f : W64.LS) (size opc : Nat) : List (Nat × Nat) :=
  (5, f.rt) :: (5, f.rn) :: (f.addr.fields ++ [(2, opc), (6, f.addr.addrClass), (2, size)])

theorem option_bit {x : BitVec 3} (h : x[1] = true) : x.toNat / 2 % 2 = 1 := by
  revert x
  decide

theorem idx_field {x : BitVec 2} (h : (x != 2) = true) : x.toNat % 2 ^ 2 ≠ 2 := by
  revert x
  decide

theorem decodeW64_of_unsigned {w : Nat} (h : fld w 24 6 = 0x39) : decodeW64 w = decodeW64Ls w := by
  simp [decodeW64, decodeW64LoadStore, fld_inside h]

theorem decodeW64_of_signed {w : Nat} (h : fld w 24 6 = 0x38) (h21 : fld w 21 1 = 0) (hidx : fld w 10 2 ≠ 2) :
    decodeW64 w = decodeW64Ls w := by
  simp [decodeW64, decodeW64LoadStore, fld_inside h, h21, hidx]

theorem decodeW64_of_index {w : Nat} (h : fld w 24 6 = 0x38) (h21 : fld w 21 1 = 1) (h10 : fld w 10 2 = 2)
    (h14 : fld w 14 1 = 1) : decodeW64 w = decodeW64Ls w := by
  simp [decodeW64, decodeW64LoadStore, fld_inside h, h21, h10, h14]

theorem W64.LS.roundTrips {f : W64.LS} {mk : W64.LS → Instr} {size opc : Nat} (hwf : f.addr.wf = true)
    (hsize : size < 4) (hopc : opc < 4) (hword : encode
      (mk f) = 0x38 * 2 ^ 24 + size * 2 ^ 30 + opc * 2 ^ 22 + f.toWord)
    (hdecode : ∀ w, fld w 30 2 = size → fld w 22 2 = opc → decodeW64Ls w = some (mk (.ofWord w))) :
    RoundTrips .w64 (mk f) := by
  obtain ⟨rn, rt, addr⟩ := f
  have hsizeField : size % 2 ^ 2 = size := Nat.mod_eq_of_lt hsize
  have hopcField : opc % 2 ^ 2 = opc := Nat.mod_eq_of_lt hopc
  refine roundTrips_w64 (fs := W64.LS.fields ⟨rn, rt, addr⟩ size opc) (hword.trans ?word) ?width ?operands
    (Eq.trans ?form (hdecode _ ?size ?opc))
  case word =>
    cases addr <;> simp only [toWord, fields, Addr.fields, Addr.addrClass, Addr.toWord, packed,
      List.cons_append, List.nil_append, toNat_mod_two] <;> omega
  case width => cases addr <;> rfl
  case operands => cases addr <;> simp [ofWord, fields, Addr.fields, Addr.addrClass, Addr.ofWord]
  case form =>
    cases addr with
    | unsigned imm12 => exact decodeW64_of_unsigned (by simp [fields, Addr.fields, Addr.addrClass])
    | signed imm9 idx =>
      exact decodeW64_of_signed (by simp [fields, Addr.fields, Addr.addrClass]) (by simp [fields, Addr.fields])
        (by simpa [fields, Addr.fields] using idx_field hwf)
    | reg rm option s =>
      exact decodeW64_of_index (by simp [fields, Addr.fields, Addr.addrClass]) (by simp [fields, Addr.fields])
        (by simp [fields, Addr.fields]) (by simpa [fields, Addr.fields] using option_bit hwf)
  case size => cases addr <;> simpa [fields, Addr.fields] using hsizeField
  case opc => cases addr <;> simpa [fields, Addr.fields] using hopcField

def W64.LIT.fields (f : W64.LIT) (op : Nat) : List (Nat × Nat) :=
  [(5, f.rt), (19, f.imm19.toNat), (6, 0x18), (2, op)]

theorem W64.LIT.roundTrips {f : W64.LIT} {mk : W64.LIT → Instr} {op : Nat} (hop : op < 4)
    (hword : encode (mk f) = 0x18 * 2 ^ 24 + op * 2 ^ 30 + f.toWord)
    (hdecode : ∀ w, fld w 24 6 = 0x18 → fld w 30 2 = op → decodeW64 w = some (mk (.ofWord w))) :
    RoundTrips .w64 (mk f) :=
  roundTrips_w64 (fs := f.fields op) (hword.trans (by simp only [toWord, packed, fields]; omega)) rfl
    (by simp [ofWord, fields])
    (hdecode _ (by simp [fields]) (by simpa [fields] using Nat.mod_eq_of_lt hop))

def W64.LSP.fields (f : W64.LSP) (l : Nat) : List (Nat × Nat) :=
  [(5, f.rt), (5, f.rn), (5, f.rt2), (7, f.imm7.toNat), (1, l), (2, f.idx.toNat), (6, 0x14), (1, f.sf.toNat)]

theorem W64.LSP.roundTrips {f : W64.LSP} {mk : W64.LSP → Instr} {l : Nat} (hl : l < 2) (hidx : (f.idx != 0) = true)
    (hword : encode (mk f) = 0x28 * 2 ^ 24 + l * 2 ^ 22 + f.toWord)
    (hdecode : ∀ w, fld w 25 6 = 0x14 → fld w 23 2 ≠ 0 → fld w 22 1 = l → decodeW64 w = some (mk (.ofWord w))) :
    RoundTrips .w64 (mk f) :=
  roundTrips_w64 (fs := f.fields l) (hword.trans (by simp only [toWord, packed, fields, toNat_mod_two]; omega)) rfl
    (by simp [ofWord, fields])
    (hdecode _ (by simp [fields]) (by simpa [fields] using toNat_mod_ne_zero hidx)
      (by simpa [fields] using Nat.mod_eq_of_lt hl))

/-- Settles O10: every format packs its fields where the decoder reads them, and each row's selecting bits are its own. -/
theorem decodeEncodeW64 : Obligations.DecodeEncodeW64 := by
  intro i hwf hmode
  cases i with
  | w64AddAsi f =>
    exact W64.ASI.roundTrips (mk := .w64AddAsi) (op := 0) (by decide) rfl fun w h h29 =>
      by simp [decodeW64, decodeW64Imm, fld_inside h, h29]
  | w64AddsAsi f =>
    exact W64.ASI.roundTrips (mk := .w64AddsAsi) (op := 1) (by decide) rfl fun w h h29 =>
      by simp [decodeW64, decodeW64Imm, fld_inside h, h29]
  | w64SubAsi f =>
    exact W64.ASI.roundTrips (mk := .w64SubAsi) (op := 2) (by decide) rfl fun w h h29 =>
      by simp [decodeW64, decodeW64Imm, fld_inside h, h29]
  | w64SubsAsi f =>
    exact W64.ASI.roundTrips (mk := .w64SubsAsi) (op := 3) (by decide) rfl fun w h h29 =>
      by simp [decodeW64, decodeW64Imm, fld_inside h, h29]
  | w64AddAsr f =>
    exact W64.ASR.roundTrips (mk := .w64AddAsr) (op := 0) (by decide) (Bool.and_eq_true_iff.1 hwf).1
      (Bool.and_eq_true_iff.1 hwf).2 rfl fun w h h21 hshift hamount h29 =>
      by simp [decodeW64, decodeW64Reg, fld_inside h, h21, hshift, hamount, decodeW64Asr, h29]
  | w64AddsAsr f =>
    exact W64.ASR.roundTrips (mk := .w64AddsAsr) (op := 1) (by decide) (Bool.and_eq_true_iff.1 hwf).1
      (Bool.and_eq_true_iff.1 hwf).2 rfl fun w h h21 hshift hamount h29 =>
      by simp [decodeW64, decodeW64Reg, fld_inside h, h21, hshift, hamount, decodeW64Asr, h29]
  | w64SubAsr f =>
    exact W64.ASR.roundTrips (mk := .w64SubAsr) (op := 2) (by decide) (Bool.and_eq_true_iff.1 hwf).1
      (Bool.and_eq_true_iff.1 hwf).2 rfl fun w h h21 hshift hamount h29 =>
      by simp [decodeW64, decodeW64Reg, fld_inside h, h21, hshift, hamount, decodeW64Asr, h29]
  | w64SubsAsr f =>
    exact W64.ASR.roundTrips (mk := .w64SubsAsr) (op := 3) (by decide) (Bool.and_eq_true_iff.1 hwf).1
      (Bool.and_eq_true_iff.1 hwf).2 rfl fun w h h21 hshift hamount h29 =>
      by simp [decodeW64, decodeW64Reg, fld_inside h, h21, hshift, hamount, decodeW64Asr, h29]
  | w64AndLogr f =>
    exact W64.LOGR.roundTrips (mk := .w64AndLogr) (op := 0) (n := 0) (by decide)
      (by decide) hwf rfl fun w h hamount h29 h21 =>
      by simp [decodeW64, decodeW64Reg, fld_inside h, hamount, decodeW64Logr, h29, h21]
  | w64BicLogr f =>
    exact W64.LOGR.roundTrips (mk := .w64BicLogr) (op := 0) (n := 1) (by decide)
      (by decide) hwf rfl fun w h hamount h29 h21 =>
      by simp [decodeW64, decodeW64Reg, fld_inside h, hamount, decodeW64Logr, h29, h21]
  | w64OrrLogr f =>
    exact W64.LOGR.roundTrips (mk := .w64OrrLogr) (op := 1) (n := 0) (by decide)
      (by decide) hwf rfl fun w h hamount h29 h21 =>
      by simp [decodeW64, decodeW64Reg, fld_inside h, hamount, decodeW64Logr, h29, h21]
  | w64OrnLogr f =>
    exact W64.LOGR.roundTrips (mk := .w64OrnLogr) (op := 1) (n := 1) (by decide)
      (by decide) hwf rfl fun w h hamount h29 h21 =>
      by simp [decodeW64, decodeW64Reg, fld_inside h, hamount, decodeW64Logr, h29, h21]
  | w64EorLogr f =>
    exact W64.LOGR.roundTrips (mk := .w64EorLogr) (op := 2) (n := 0) (by decide)
      (by decide) hwf rfl fun w h hamount h29 h21 =>
      by simp [decodeW64, decodeW64Reg, fld_inside h, hamount, decodeW64Logr, h29, h21]
  | w64EonLogr f =>
    exact W64.LOGR.roundTrips (mk := .w64EonLogr) (op := 2) (n := 1) (by decide)
      (by decide) hwf rfl fun w h hamount h29 h21 =>
      by simp [decodeW64, decodeW64Reg, fld_inside h, hamount, decodeW64Logr, h29, h21]
  | w64AndsLogr f =>
    exact W64.LOGR.roundTrips (mk := .w64AndsLogr) (op := 3) (n := 0) (by decide)
      (by decide) hwf rfl fun w h hamount h29 h21 =>
      by simp [decodeW64, decodeW64Reg, fld_inside h, hamount, decodeW64Logr, h29, h21]
  | w64BicsLogr f =>
    exact W64.LOGR.roundTrips (mk := .w64BicsLogr) (op := 3) (n := 1) (by decide)
      (by decide) hwf rfl fun w h hamount h29 h21 =>
      by simp [decodeW64, decodeW64Reg, fld_inside h, hamount, decodeW64Logr, h29, h21]
  | w64MovnMovw f =>
    exact W64.MOVW.roundTrips (mk := .w64MovnMovw) (op := 0) (by decide) hwf rfl fun w h hhw h29 =>
      by simp [decodeW64, decodeW64Imm, fld_inside h, hhw, h29]
  | w64MovzMovw f =>
    exact W64.MOVW.roundTrips (mk := .w64MovzMovw) (op := 2) (by decide) hwf rfl fun w h hhw h29 =>
      by simp [decodeW64, decodeW64Imm, fld_inside h, hhw, h29]
  | w64MovkMovw f =>
    exact W64.MOVW.roundTrips (mk := .w64MovkMovw) (op := 3) (by decide) hwf rfl fun w h hhw h29 =>
      by simp [decodeW64, decodeW64Imm, fld_inside h, hhw, h29]
  | w64AdrAdr f =>
    exact W64.ADR.roundTrips (mk := .w64AdrAdr) (op := 0) (by decide) rfl fun w h h31 =>
      by simp [decodeW64_of_adr h, h31]
  | w64AdrpAdr f =>
    exact W64.ADR.roundTrips (mk := .w64AdrpAdr) (op := 1) (by decide) rfl fun w h h31 =>
      by simp [decodeW64_of_adr h, h31]
  | w64BBi f =>
    exact W64.BI.roundTrips (mk := .w64BBi) (l := 0) (by decide) rfl fun w h =>
      by simp [decodeW64_of_branch (fld_inside h (by decide) (by decide)), decodeW64Branch, h]
  | w64BlBi f =>
    exact W64.BI.roundTrips (mk := .w64BlBi) (l := 1) (by decide) rfl fun w h =>
      by simp [decodeW64_of_branch (fld_inside h (by decide) (by decide)), decodeW64Branch, h]
  | w64BcondBc f =>
    exact W64.BC.roundTrips (mk := .w64BcondBc) rfl fun w h h4 =>
      by simp [decodeW64, decodeW64Branch, fld_inside h, h4]
  | w64CbzCb f =>
    exact W64.CB.roundTrips (mk := .w64CbzCb) (op := 0x34) (by decide) rfl fun w h =>
      by simp [decodeW64_of_branch (fld_inside h (by decide) (by decide)), decodeW64Branch,
        not_branch_of_compare (fld_inside h (by decide) (by decide)), h]
  | w64CbnzCb f =>
    exact W64.CB.roundTrips (mk := .w64CbnzCb) (op := 0x35) (by decide) rfl fun w h =>
      by simp [decodeW64_of_branch (fld_inside h (by decide) (by decide)), decodeW64Branch,
        not_branch_of_compare (fld_inside h (by decide) (by decide)), h]
  | w64TbzTb f =>
    exact W64.TB.roundTrips (mk := .w64TbzTb) (op := 0x36) (by decide) rfl fun w h =>
      by simp [decodeW64_of_branch (fld_inside h (by decide) (by decide)), decodeW64Branch,
        not_branch_of_compare (fld_inside h (by decide) (by decide)), h]
  | w64TbnzTb f =>
    exact W64.TB.roundTrips (mk := .w64TbnzTb) (op := 0x37) (by decide) rfl fun w h =>
      by simp [decodeW64_of_branch (fld_inside h (by decide) (by decide)), decodeW64Branch,
        not_branch_of_compare (fld_inside h (by decide) (by decide)), h]
  | w64BrBreg f =>
    exact W64.BREG.roundTrips (mk := .w64BrBreg) (op := 0x3587c0) (by decide) rfl fun w h h0 =>
      by simp [decodeW64, decodeW64Branch, fld_inside h, h0]
  | w64BlrBreg f =>
    exact W64.BREG.roundTrips (mk := .w64BlrBreg) (op := 0x358fc0) (by decide) rfl fun w h h0 =>
      by simp [decodeW64, decodeW64Branch, fld_inside h, h0]
  | w64RetBreg f =>
    exact W64.BREG.roundTrips (mk := .w64RetBreg) (op := 0x3597c0) (by decide) rfl fun w h h0 =>
      by simp [decodeW64, decodeW64Branch, fld_inside h, h0]
  | w64CselCsel f =>
    exact W64.CSEL.roundTrips (mk := .w64CselCsel) (op := 0) (o2 := 0) (by decide)
      (by decide) rfl fun w h h29 h11 h30 h10 =>
      by simp [decodeW64, decodeW64Reg, fld_inside h, h29, h11, decodeW64Csel, h30, h10]
  | w64CsincCsel f =>
    exact W64.CSEL.roundTrips (mk := .w64CsincCsel) (op := 0) (o2 := 1) (by decide)
      (by decide) rfl fun w h h29 h11 h30 h10 =>
      by simp [decodeW64, decodeW64Reg, fld_inside h, h29, h11, decodeW64Csel, h30, h10]
  | w64CsinvCsel f =>
    exact W64.CSEL.roundTrips (mk := .w64CsinvCsel) (op := 1) (o2 := 0) (by decide)
      (by decide) rfl fun w h h29 h11 h30 h10 =>
      by simp [decodeW64, decodeW64Reg, fld_inside h, h29, h11, decodeW64Csel, h30, h10]
  | w64CsnegCsel f =>
    exact W64.CSEL.roundTrips (mk := .w64CsnegCsel) (op := 1) (o2 := 1) (by decide)
      (by decide) rfl fun w h h29 h11 h30 h10 =>
      by simp [decodeW64, decodeW64Reg, fld_inside h, h29, h11, decodeW64Csel, h30, h10]
  | w64UdivDp2 f =>
    exact W64.DP2.roundTrips (mk := .w64UdivDp2) (op := 2) (by decide) rfl fun w h h10 =>
      by simp [decodeW64, decodeW64Reg, fld_inside h, decodeW64Dp2, h10]
  | w64SdivDp2 f =>
    exact W64.DP2.roundTrips (mk := .w64SdivDp2) (op := 3) (by decide) rfl fun w h h10 =>
      by simp [decodeW64, decodeW64Reg, fld_inside h, decodeW64Dp2, h10]
  | w64LslvDp2 f =>
    exact W64.DP2.roundTrips (mk := .w64LslvDp2) (op := 8) (by decide) rfl fun w h h10 =>
      by simp [decodeW64, decodeW64Reg, fld_inside h, decodeW64Dp2, h10]
  | w64LsrvDp2 f =>
    exact W64.DP2.roundTrips (mk := .w64LsrvDp2) (op := 9) (by decide) rfl fun w h h10 =>
      by simp [decodeW64, decodeW64Reg, fld_inside h, decodeW64Dp2, h10]
  | w64AsrvDp2 f =>
    exact W64.DP2.roundTrips (mk := .w64AsrvDp2) (op := 10) (by decide) rfl fun w h h10 =>
      by simp [decodeW64, decodeW64Reg, fld_inside h, decodeW64Dp2, h10]
  | w64RorvDp2 f =>
    exact W64.DP2.roundTrips (mk := .w64RorvDp2) (op := 11) (by decide) rfl fun w h h10 =>
      by simp [decodeW64, decodeW64Reg, fld_inside h, decodeW64Dp2, h10]
  | w64MaddDp3 f =>
    exact W64.DP3.roundTrips (mk := .w64MaddDp3) (op31 := 0) (o0 := 0) (by decide) (by decide) rfl fun w h h15 =>
      by simp [decodeW64, decodeW64Reg, fld_inside h, decodeW64Dp3, h15]
  | w64MsubDp3 f =>
    exact W64.DP3.roundTrips (mk := .w64MsubDp3) (op31 := 0) (o0 := 1) (by decide) (by decide) rfl fun w h h15 =>
      by simp [decodeW64, decodeW64Reg, fld_inside h, decodeW64Dp3, h15]
  | w64SmaddlDp3 f =>
    exact W64.DP3L.roundTrips (mk := .w64SmaddlDp3) (op31 := 1) (o0 := 0) (by decide)
      (by decide) rfl fun w h h15 h31 =>
      by simp [decodeW64, decodeW64Reg, fld_inside h, decodeW64Dp3, h15, h31]
  | w64SmsublDp3 f =>
    exact W64.DP3L.roundTrips (mk := .w64SmsublDp3) (op31 := 1) (o0 := 1) (by decide)
      (by decide) rfl fun w h h15 h31 =>
      by simp [decodeW64, decodeW64Reg, fld_inside h, decodeW64Dp3, h15, h31]
  | w64SmulhDp3 f =>
    exact W64.MULH.roundTrips (mk := .w64SmulhDp3) (op31 := 2) (by decide) rfl fun w h h15 h31 =>
      by simp [decodeW64, decodeW64Reg, fld_inside h, decodeW64Dp3, h15, h31]
  | w64UmaddlDp3 f =>
    exact W64.DP3L.roundTrips (mk := .w64UmaddlDp3) (op31 := 5) (o0 := 0) (by decide)
      (by decide) rfl fun w h h15 h31 =>
      by simp [decodeW64, decodeW64Reg, fld_inside h, decodeW64Dp3, h15, h31]
  | w64UmsublDp3 f =>
    exact W64.DP3L.roundTrips (mk := .w64UmsublDp3) (op31 := 5) (o0 := 1) (by decide)
      (by decide) rfl fun w h h15 h31 =>
      by simp [decodeW64, decodeW64Reg, fld_inside h, decodeW64Dp3, h15, h31]
  | w64UmulhDp3 f =>
    exact W64.MULH.roundTrips (mk := .w64UmulhDp3) (op31 := 6) (by decide) rfl fun w h h15 h31 =>
      by simp [decodeW64, decodeW64Reg, fld_inside h, decodeW64Dp3, h15, h31]
  | w64Strb f =>
    exact W64.LS.roundTrips (mk := .w64Strb) (size := 0) (opc := 0) hwf (by decide) (by decide) rfl fun w h30 h22 =>
      by simp [decodeW64Ls, h30, h22]
  | w64Ldrb f =>
    exact W64.LS.roundTrips (mk := .w64Ldrb) (size := 0) (opc := 1) hwf (by decide) (by decide) rfl fun w h30 h22 =>
      by simp [decodeW64Ls, h30, h22]
  | w64Ldrsb f =>
    exact W64.LS.roundTrips (mk := .w64Ldrsb) (size := 0) (opc := 2) hwf (by decide) (by decide) rfl fun w h30 h22 =>
      by simp [decodeW64Ls, h30, h22]
  | w64Ldrsbw f =>
    exact W64.LS.roundTrips (mk := .w64Ldrsbw) (size := 0) (opc := 3) hwf (by decide) (by decide) rfl fun w h30 h22 =>
      by simp [decodeW64Ls, h30, h22]
  | w64Strh f =>
    exact W64.LS.roundTrips (mk := .w64Strh) (size := 1) (opc := 0) hwf (by decide) (by decide) rfl fun w h30 h22 =>
      by simp [decodeW64Ls, h30, h22]
  | w64Ldrh f =>
    exact W64.LS.roundTrips (mk := .w64Ldrh) (size := 1) (opc := 1) hwf (by decide) (by decide) rfl fun w h30 h22 =>
      by simp [decodeW64Ls, h30, h22]
  | w64Ldrsh f =>
    exact W64.LS.roundTrips (mk := .w64Ldrsh) (size := 1) (opc := 2) hwf (by decide) (by decide) rfl fun w h30 h22 =>
      by simp [decodeW64Ls, h30, h22]
  | w64Ldrshw f =>
    exact W64.LS.roundTrips (mk := .w64Ldrshw) (size := 1) (opc := 3) hwf (by decide) (by decide) rfl fun w h30 h22 =>
      by simp [decodeW64Ls, h30, h22]
  | w64Strw f =>
    exact W64.LS.roundTrips (mk := .w64Strw) (size := 2) (opc := 0) hwf (by decide) (by decide) rfl fun w h30 h22 =>
      by simp [decodeW64Ls, h30, h22]
  | w64Ldrw f =>
    exact W64.LS.roundTrips (mk := .w64Ldrw) (size := 2) (opc := 1) hwf (by decide) (by decide) rfl fun w h30 h22 =>
      by simp [decodeW64Ls, h30, h22]
  | w64Ldrsw f =>
    exact W64.LS.roundTrips (mk := .w64Ldrsw) (size := 2) (opc := 2) hwf (by decide) (by decide) rfl fun w h30 h22 =>
      by simp [decodeW64Ls, h30, h22]
  | w64Strx f =>
    exact W64.LS.roundTrips (mk := .w64Strx) (size := 3) (opc := 0) hwf (by decide) (by decide) rfl fun w h30 h22 =>
      by simp [decodeW64Ls, h30, h22]
  | w64Ldrx f =>
    exact W64.LS.roundTrips (mk := .w64Ldrx) (size := 3) (opc := 1) hwf (by decide) (by decide) rfl fun w h30 h22 =>
      by simp [decodeW64Ls, h30, h22]
  | w64LdrwLit f =>
    exact W64.LIT.roundTrips (mk := .w64LdrwLit) (op := 0) (by decide) rfl fun w h h30 =>
      by simp [decodeW64, decodeW64LoadStore, fld_inside h, h30]
  | w64LdrxLit f =>
    exact W64.LIT.roundTrips (mk := .w64LdrxLit) (op := 1) (by decide) rfl fun w h h30 =>
      by simp [decodeW64, decodeW64LoadStore, fld_inside h, h30]
  | w64LdrswLit f =>
    exact W64.LIT.roundTrips (mk := .w64LdrswLit) (op := 2) (by decide) rfl fun w h h30 =>
      by simp [decodeW64, decodeW64LoadStore, fld_inside h, h30]
  | w64StpLsp f =>
    exact W64.LSP.roundTrips (mk := .w64StpLsp) (l := 0) (by decide) hwf rfl fun w h hidx h22 =>
      by simp [decodeW64_of_pair h hidx, h22]
  | w64LdpLsp f =>
    exact W64.LSP.roundTrips (mk := .w64LdpLsp) (l := 1) (by decide) hwf rfl fun w h hidx h22 =>
      by simp [decodeW64_of_pair h hidx, h22]
  | w64NopSys => exact ⟨by decide, by decide⟩
  | w64MrsSys f =>
    exact W64.SYS.roundTrips (mk := .w64MrsSys) (op := 0x6a9da10) (by decide) rfl fun w h =>
      by simp [decodeW64, decodeW64Branch, fld_inside h, word_ne_of_field h]
  | w64MsrSys f =>
    exact W64.SYS.roundTrips (mk := .w64MsrSys) (op := 0x6a8da10) (by decide) rfl fun w h =>
      by simp [decodeW64, decodeW64Branch, fld_inside h, word_ne_of_field h]
  | _ => exact nomatch hmode

end Sys2Proof
end

section
/-! PROOFS. What a decoder answers is well formed (30_encoding.md section 1): a lemma for each table of the decoder, under
the bits that its caller has tested. -/

namespace Sys2Proof

/-- The answer, if there is one, is a well-formed instruction of mode `m`. -/
def AnswersIn (m : Mode) (o : Option Instr) : Prop := ∀ i, o = some i → i.wf = true ∧ i.mode = m

theorem answersIn_none {m : Mode} : AnswersIn m none := nofun

theorem answersIn_some {m : Mode} {i : Instr} (hwf : i.wf = true) (hmode : i.mode = m) : AnswersIn m (some i) := by
  rintro _ ⟨⟩
  exact ⟨hwf, hmode⟩

theorem answersIn_ite {m : Mode} {p : Prop} [Decidable p] {a b : Option Instr} (ha : p → AnswersIn m a)
    (hb : ¬p → AnswersIn m b) : AnswersIn m (if p then a else b) := by
  split
  · exact ha ‹_›
  · exact hb ‹_›

/-! ### The constraints of the formats, read from the word -/

theorem immAt_bne {w n lo v : Nat} (hv : v < 2 ^ n) (h : fld w lo n ≠ v) :
    (immAt n w lo != BitVec.ofNat n v) = true := by
  rw [immAt_eq_fld]
  refine bne_iff_ne.2 fun e => h ?_
  simpa [fld, Nat.mod_eq_of_lt hv] using congrArg BitVec.toNat e

theorem condOk_immAt {w : Nat} (h : fld w 28 4 ≠ 15) : condOk (immAt 4 w 28) = true := immAt_bne (by decide) h

theorem indexOk_bitAt {w : Nat} (h : ¬(fld w 24 1 = 0 ∧ fld w 21 1 = 1)) : indexOk (bitAt w 24) (bitAt w 21) = true := by
  have hp : fld w 24 1 < 2 := Nat.mod_lt _ (by decide)
  rw [bitAt_eq_fld, bitAt_eq_fld, indexOk]
  by_cases hw : fld w 21 1 = 1
  · simp [show fld w 24 1 = 1 by omega]
  · simp [hw]

theorem vectorIndexOk_bitAt {w : Nat} (h : ¬(fld w 24 1 = 0 ∧ fld w 21 1 = 0)) :
    vectorIndexOk (bitAt w 24) (bitAt w 21) = true := by
  have hp : fld w 24 1 < 2 := Nat.mod_lt _ (by decide)
  have hw : fld w 21 1 < 2 := Nat.mod_lt _ (by decide)
  rw [bitAt_eq_fld, bitAt_eq_fld, vectorIndexOk]
  by_cases hp0 : fld w 24 1 = 0
  · simp [show fld w 21 1 = 1 by omega]
  · simp [show fld w 24 1 = 1 by omega]

theorem condOk_and {c : Cond} {b : Bool} (hc : condOk c = true) (hb : b = true) : (condOk c && b) = true := by
  rw [hc, hb]; rfl

theorem shiftAmountOk_immAt {w : Nat} (h : ¬(fld w 31 1 = 0 ∧ fld w 15 1 = 1)) :
    shiftAmountOk (bitAt w 31) (immAt 6 w 10) = true := by
  have h31 : fld w 31 1 < 2 := Nat.mod_lt _ (by decide)
  rw [bitAt_eq_fld, shiftAmountOk, immAt]
  by_cases hsf : fld w 31 1 = 1
  · simp [hsf]
  · have hlow : w / 2 ^ 10 % 2 ^ 6 < 32 := by simp only [fld] at *; omega
    simpa using Or.inr hlow

theorem halfwordOk_immAt {w : Nat} (h : ¬(fld w 31 1 = 0 ∧ fld w 22 1 = 1)) :
    halfwordOk (bitAt w 31) (immAt 2 w 21) = true := by
  have h31 : fld w 31 1 < 2 := Nat.mod_lt _ (by decide)
  rw [bitAt_eq_fld, halfwordOk, immAt]
  by_cases hsf : fld w 31 1 = 1
  · simp [hsf]
  · have hlow : w / 2 ^ 21 % 2 ^ 2 < 2 := by simp only [fld] at *; omega
    simpa using Or.inr hlow

theorem shiftAt_ne_ror {w lo : Nat} (h : fld w lo 2 ≠ 3) : (shiftAt w lo != .ror) = true := by
  have hlt : fld w lo 2 < 4 := Nat.mod_lt _ (by decide)
  rw [shiftAt_eq_fld]
  generalize fld w lo 2 = k at *
  interval_cases k <;> simp_all [ShiftKind.ofCode]

/-- The address forms that `decodeW64LoadStore` accepts (R127). -/
theorem addrOfWord_wf {w : Nat}
    (h : fld w 24 1 = 1 ∨ (fld w 21 1 = 0 → fld w 10 2 ≠ 2) ∧ (fld w 21 1 ≠ 0 → fld w 14 1 = 1)) :
    (W64.Addr.ofWord w).wf = true := by
  unfold W64.Addr.ofWord
  split
  · rfl
  · obtain ⟨hsigned, hreg⟩ := h.resolve_left ‹_›
    split
    · exact immAt_bne (by decide) (hsigned ‹_›)
    · have hbit := hreg ‹_›
      have htwo : fld w 13 3 = 2 ∨ fld w 13 3 = 3 ∨ fld w 13 3 = 6 ∨ fld w 13 3 = 7 := by simp only [fld] at *; omega
      rw [W64.Addr.wf, immAt_eq_fld]
      rcases htwo with e | e | e | e <;> rw [e] <;> rfl

/-! ### The tables -/

theorem answersIn_decodeF32Dp {w : Nat} (hcond : fld w 28 4 ≠ 15) : AnswersIn .f32 (decodeF32Dp w) := by
  unfold decodeF32Dp
  split <;> exact answersIn_some (condOk_immAt hcond) rfl

theorem answersIn_decodeF32Vop {w : Nat} (hcond : fld w 28 4 ≠ 15) : AnswersIn .f32 (decodeF32Vop w) := by
  unfold decodeF32Vop
  split
  case h_32 => exact answersIn_none
  all_goals exact answersIn_some (condOk_immAt hcond) rfl

theorem answersIn_decodeF32Misc {w : Nat} (hcond : fld w 28 4 ≠ 15) : AnswersIn .f32 (decodeF32Misc w) := by
  unfold decodeF32Misc
  split
  · exact answersIn_ite (fun _ => answersIn_some (condOk_immAt hcond) rfl) fun _ =>
      answersIn_ite (fun _ => answersIn_some (condOk_immAt hcond) rfl) fun _ => answersIn_none
  · exact answersIn_ite (fun _ => answersIn_some (condOk_immAt hcond) rfl) fun _ => answersIn_none
  · exact answersIn_ite (fun _ => answersIn_some (condOk_immAt hcond) rfl) fun _ => answersIn_none
  · refine answersIn_ite (fun _ => ?_) fun _ => answersIn_none
    split <;> exact answersIn_some (condOk_immAt hcond) rfl
  · exact answersIn_none

theorem answersIn_decodeF32MulSwp {w : Nat} (hcond : fld w 28 4 ≠ 15) : AnswersIn .f32 (decodeF32MulSwp w) := by
  unfold decodeF32MulSwp
  refine answersIn_ite (fun _ => ?_) fun _ => answersIn_ite (fun _ => answersIn_some (condOk_immAt hcond) rfl) fun _ =>
    answersIn_ite (fun _ => answersIn_some (condOk_immAt hcond) rfl) fun _ => answersIn_none
  split
  case h_7 => exact answersIn_none
  all_goals exact answersIn_some (condOk_immAt hcond) rfl

theorem answersIn_decodeF32Half {w : Nat} (hcond : fld w 28 4 ≠ 15) : AnswersIn .f32 (decodeF32Half w) := by
  unfold decodeF32Half
  refine answersIn_ite (fun _ => answersIn_none) fun hidx => answersIn_ite (fun _ => ?_) fun _ =>
    answersIn_ite (fun _ => ?_) fun _ => answersIn_none
  all_goals
    split
    case h_7 => exact answersIn_none
    all_goals exact answersIn_some (condOk_and (condOk_immAt hcond) (indexOk_bitAt hidx)) rfl

theorem answersIn_decodeF32Lsi {w : Nat} (hcond : fld w 28 4 ≠ 15) : AnswersIn .f32 (decodeF32Lsi w) := by
  unfold decodeF32Lsi
  refine answersIn_ite (fun _ => ?_) fun hidx => ?_
  · split <;> exact answersIn_some (condOk_immAt hcond) rfl
  · split <;> exact answersIn_some (condOk_and (condOk_immAt hcond) (indexOk_bitAt hidx)) rfl

theorem answersIn_decodeF32Lsr {w : Nat} (hcond : fld w 28 4 ≠ 15) : AnswersIn .f32 (decodeF32Lsr w) := by
  unfold decodeF32Lsr
  refine answersIn_ite (fun _ => ?_) fun hidx => ?_
  · split <;> exact answersIn_some (condOk_immAt hcond) rfl
  · split <;> exact answersIn_some (condOk_and (condOk_immAt hcond) (indexOk_bitAt hidx)) rfl

theorem answersIn_decodeF32Class0 {w : Nat} (hcond : fld w 28 4 ≠ 15) : AnswersIn .f32 (decodeF32Class0 w) := by
  unfold decodeF32Class0
  exact answersIn_ite
    (fun _ => answersIn_ite (fun _ => answersIn_decodeF32MulSwp hcond) fun _ => answersIn_decodeF32Half hcond)
    fun _ => answersIn_ite (fun _ => answersIn_decodeF32Misc hcond) fun _ => answersIn_decodeF32Dp hcond

theorem answersIn_decodeF32Class1 {w : Nat} (hcond : fld w 28 4 ≠ 15) : AnswersIn .f32 (decodeF32Class1 w) := by
  unfold decodeF32Class1
  exact answersIn_ite
    (fun _ => answersIn_ite (fun _ => answersIn_some (condOk_immAt hcond) rfl) fun _ => answersIn_none)
    fun _ => answersIn_decodeF32Dp hcond

theorem answersIn_decodeF32Class6 {w : Nat} (hcond : fld w 28 4 ≠ 15) : AnswersIn .f32 (decodeF32Class6 w) := by
  unfold decodeF32Class6
  refine answersIn_ite (fun h => ?_) fun _ => answersIn_ite (fun _ => ?_) fun _ => answersIn_none
  · obtain ⟨-, -, hidx⟩ := h
    have hwf := condOk_and (condOk_immAt hcond) (vectorIndexOk_bitAt hidx)
    exact answersIn_ite (fun _ => answersIn_some hwf rfl) fun _ => answersIn_some hwf rfl
  · exact answersIn_ite (fun _ => answersIn_some (condOk_immAt hcond) rfl) fun _ => answersIn_some (condOk_immAt hcond) rfl

theorem answersIn_decodeF32Class7 {w : Nat} (hcond : fld w 28 4 ≠ 15) : AnswersIn .f32 (decodeF32Class7 w) := by
  unfold decodeF32Class7
  exact answersIn_ite (fun _ => answersIn_none) fun _ => answersIn_ite (fun _ => answersIn_decodeF32Vop hcond) fun _ =>
    answersIn_ite
      (fun _ => answersIn_ite (fun _ => answersIn_some (condOk_immAt hcond) rfl) fun _ => answersIn_some (condOk_immAt hcond) rfl)
      fun _ => answersIn_ite
        (fun _ => answersIn_ite (fun _ => answersIn_some (condOk_immAt hcond) rfl) fun _ => answersIn_some (condOk_immAt hcond) rfl)
        fun _ => answersIn_none

theorem answersIn_decodeF32 {w : Nat} : AnswersIn .f32 (decodeF32 w) := by
  unfold decodeF32
  refine answersIn_ite (fun _ => answersIn_ite (fun _ => answersIn_some rfl rfl) fun _ => answersIn_none) fun hcond => ?_
  split
  · exact answersIn_decodeF32Class0 hcond
  · exact answersIn_decodeF32Class1 hcond
  · exact answersIn_decodeF32Lsi hcond
  · exact answersIn_ite (fun _ => answersIn_decodeF32Lsr hcond) fun _ => answersIn_none
  · exact answersIn_ite (fun _ => answersIn_some (condOk_immAt hcond) rfl) fun _ => answersIn_some (condOk_immAt hcond) rfl
  · exact answersIn_ite (fun _ => answersIn_some (condOk_immAt hcond) rfl) fun _ => answersIn_some (condOk_immAt hcond) rfl
  · exact answersIn_decodeF32Class6 hcond
  · exact answersIn_decodeF32Class7 hcond

theorem answersIn_decodeC16Alu {w : Nat} : AnswersIn .c16 (decodeC16Alu w) := by
  unfold decodeC16Alu
  split <;> exact answersIn_some rfl rfl

theorem answersIn_decodeC16Lsr {w : Nat} : AnswersIn .c16 (decodeC16Lsr w) := by
  unfold decodeC16Lsr
  split <;> exact answersIn_some rfl rfl

theorem answersIn_decodeC16Hi {w : Nat} : AnswersIn .c16 (decodeC16Hi w) := by
  unfold decodeC16Hi
  split
  case h_4 => exact answersIn_ite (fun _ => answersIn_some rfl rfl) fun _ => answersIn_some rfl rfl
  all_goals exact answersIn_some rfl rfl

theorem answersIn_decodeC16Misc {w : Nat} : AnswersIn .c16 (decodeC16Misc w) := by
  unfold decodeC16Misc
  exact answersIn_ite (fun _ => answersIn_ite (fun _ => answersIn_some rfl rfl) fun _ => answersIn_some rfl rfl) fun _ =>
    answersIn_ite (fun _ => answersIn_some rfl rfl) fun _ => answersIn_ite (fun _ => answersIn_some rfl rfl) fun _ =>
    answersIn_ite
      (fun _ => answersIn_ite (fun hmask => answersIn_some (immAt_bne (by decide) hmask) rfl) fun _ =>
        answersIn_ite (fun _ => answersIn_some rfl rfl) fun _ => answersIn_none)
      fun _ => answersIn_none

theorem answersIn_decodeC16 {w : Nat} : AnswersIn .c16 (decodeC16 w) := by
  unfold decodeC16
  have hbc {w : Nat} (h : fld w 8 4 < 14) : AnswersIn .c16 (some (.c16BBc (.ofWord w))) :=
    answersIn_some (decide_eq_true (by simpa [C16.BC.ofWord, immAt_eq_fld, fld] using h)) rfl
  split
  case h_4 => split <;> exact answersIn_some rfl rfl
  case h_9 => exact answersIn_ite (fun _ => answersIn_decodeC16Alu) fun _ => answersIn_decodeC16Hi
  case h_11 | h_12 => exact answersIn_decodeC16Lsr
  case h_23 | h_24 => exact answersIn_decodeC16Misc
  case h_27 => exact hbc (by simp only [fld] at *; omega)
  case h_28 => exact answersIn_ite hbc fun _ => answersIn_none
  case h_30 => exact answersIn_ite (fun _ => answersIn_some rfl rfl) fun _ => answersIn_none
  all_goals exact answersIn_some rfl rfl

theorem answersIn_decodeW64Imm {w : Nat} : AnswersIn .w64 (decodeW64Imm w) := by
  unfold decodeW64Imm
  have hadr {w : Nat} : AnswersIn .w64
      (if fld w 31 1 = 0 then some (.w64AdrAdr (.ofWord w)) else some (.w64AdrpAdr (.ofWord w))) :=
    answersIn_ite (fun _ => answersIn_some rfl rfl) fun _ => answersIn_some rfl rfl
  split
  · split <;> exact answersIn_some rfl rfl
  · refine answersIn_ite (fun _ => answersIn_none) fun hhw => ?_
    split
    case h_4 => exact answersIn_none
    all_goals exact answersIn_some (halfwordOk_immAt hhw) rfl
  · exact hadr
  · exact hadr
  · exact answersIn_none

theorem answersIn_decodeW64Branch {w : Nat} : AnswersIn .w64 (decodeW64Branch w) := by
  unfold decodeW64Branch
  exact answersIn_ite (fun _ => answersIn_some rfl rfl) fun _ => answersIn_ite (fun _ => answersIn_some rfl rfl) fun _ =>
    answersIn_ite (fun _ => answersIn_ite (fun _ => answersIn_some rfl rfl) fun _ => answersIn_none)
    <| fun _ => answersIn_ite (fun _ => answersIn_some rfl rfl) <|
    fun _ => answersIn_ite (fun _ => answersIn_some rfl rfl) <|
    fun _ => answersIn_ite (fun _ => answersIn_some rfl rfl) <|
    fun _ => answersIn_ite (fun _ => answersIn_some rfl rfl) <|
    fun _ => answersIn_ite (fun _ => answersIn_some rfl rfl) <|
    fun _ => answersIn_ite (fun _ => answersIn_some rfl rfl) <|
    fun _ => answersIn_ite (fun _ => answersIn_some rfl rfl) <|
    fun _ => answersIn_ite (fun _ => answersIn_some rfl rfl) <|
    fun _ => answersIn_ite (fun _ => answersIn_some rfl rfl) <|
    fun _ => answersIn_ite (fun _ => answersIn_some rfl rfl) fun _ => answersIn_none

theorem answersIn_decodeW64Ls {w : Nat} (haddr : (W64.Addr.ofWord w).wf = true) : AnswersIn .w64 (decodeW64Ls w) := by
  unfold decodeW64Ls
  split
  case h_14 => exact answersIn_none
  all_goals exact answersIn_some haddr rfl

theorem answersIn_decodeW64LoadStore {w : Nat} : AnswersIn .w64 (decodeW64LoadStore w) := by
  unfold decodeW64LoadStore
  refine answersIn_ite (fun h => answersIn_decodeW64Ls (addrOfWord_wf (.inl ?_))) fun _ =>
    answersIn_ite (fun _ => answersIn_ite (fun h21 => answersIn_ite (fun _ => answersIn_none) fun hidx =>
        answersIn_decodeW64Ls (addrOfWord_wf (.inr ⟨fun _ => hidx, fun h => absurd h21 h⟩)))
      fun h21 => answersIn_ite
        (fun h => answersIn_decodeW64Ls (addrOfWord_wf (.inr ⟨fun h0 => absurd h0 h21, fun _ => h.2⟩)))
        fun _ => answersIn_none) fun _ =>
    answersIn_ite (fun _ => ?_) fun _ => answersIn_ite (fun h => ?_) fun _ => answersIn_none
  · simp only [fld] at *
    omega
  · split
    case h_4 => exact answersIn_none
    all_goals exact answersIn_some rfl rfl
  · have hidx := immAt_bne (by decide) h.2
    exact answersIn_ite (fun _ => answersIn_some hidx rfl) fun _ => answersIn_some hidx rfl

theorem answersIn_decodeW64Logr {w : Nat} (hamount : ¬(fld w 31 1 = 0 ∧ fld w 15 1 = 1)) : AnswersIn .w64 (decodeW64Logr w) := by
  unfold decodeW64Logr
  split <;> exact answersIn_some (shiftAmountOk_immAt hamount) rfl

theorem answersIn_decodeW64Asr {w : Nat} (hshift : fld w 22 2 ≠ 3) (hamount : ¬(fld w 31 1 = 0 ∧ fld w 15 1 = 1)) : AnswersIn .w64 (decodeW64Asr w) := by
  unfold decodeW64Asr
  have hwf : (W64.ASR.ofWord w).wf = true :=
    Bool.and_eq_true_iff.2 ⟨shiftAt_ne_ror hshift, shiftAmountOk_immAt hamount⟩
  split <;> exact answersIn_some hwf rfl

theorem answersIn_decodeW64Dp2 {w : Nat} : AnswersIn .w64 (decodeW64Dp2 w) := by
  unfold decodeW64Dp2
  split
  case h_7 => exact answersIn_none
  all_goals exact answersIn_some rfl rfl

theorem answersIn_decodeW64Dp3 {w : Nat} : AnswersIn .w64 (decodeW64Dp3 w) := by
  unfold decodeW64Dp3
  split
  case h_9 => exact answersIn_none
  case h_1 | h_2 => exact answersIn_some rfl rfl
  all_goals exact answersIn_ite (fun _ => answersIn_some rfl rfl) fun _ => answersIn_none

theorem answersIn_decodeW64Csel {w : Nat} : AnswersIn .w64 (decodeW64Csel w) := by
  unfold decodeW64Csel
  split <;> exact answersIn_some rfl rfl

theorem answersIn_decodeW64Reg {w : Nat} : AnswersIn .w64 (decodeW64Reg w) := by
  unfold decodeW64Reg
  refine answersIn_ite (fun _ => answersIn_ite (fun _ => answersIn_none) fun h => ?_) fun _ =>
    answersIn_ite (fun _ => answersIn_ite (fun _ => answersIn_none) answersIn_decodeW64Logr) fun _ =>
    answersIn_ite (fun _ => answersIn_decodeW64Csel) fun _ => answersIn_ite (fun _ => answersIn_decodeW64Dp2) fun _ =>
    answersIn_ite (fun _ => answersIn_decodeW64Dp3) fun _ => answersIn_none
  rw [not_or, not_or] at h
  obtain ⟨-, hshift, hamount⟩ := h
  exact answersIn_decodeW64Asr hshift hamount

theorem answersIn_decodeW64 {w : Nat} : AnswersIn .w64 (decodeW64 w) := by
  unfold decodeW64
  split
  case h_1 | h_2 => exact answersIn_decodeW64Imm
  case h_3 | h_4 => exact answersIn_decodeW64Branch
  case h_5 | h_6 | h_7 | h_8 => exact answersIn_decodeW64LoadStore
  case h_9 | h_10 => exact answersIn_decodeW64Reg
  case h_11 => exact answersIn_none

theorem answersIn_of_decodeWord {m : Mode} {w : Nat} {i : Instr} (h : decodeWord m w = .ok i) :
    i.wf = true ∧ i.mode = m := by
  cases m <;> simp only [decodeWord] at h <;> split at h <;> cases h
  · exact answersIn_decodeF32 _ ‹_›
  · exact answersIn_decodeC16 _ ‹_›
  · exact answersIn_decodeW64 _ ‹_›

/-- Settles O11. The bound on the word is not needed: a decoder reads no bit above its instruction length. -/
theorem decodeGivesWellFormed : Obligations.DecodeGivesWellFormed :=
  fun _ _ _ _ h => answersIn_of_decodeWord h

/-- Settles O7, by evaluating the decoder on each of the words. -/
theorem decodeWrittenWords : Obligations.DecodeWrittenWords := by
  unfold Obligations.DecodeWrittenWords
  decide

end Sys2Proof
end

section
/-! PROOFS. What an instruction can do to a state, said once: it raises `Undefined`, waits for the lock, aborts at its first
refused request, or writes what its encoding may write and then moves `pc`. The rules about every instruction follow. -/

namespace Sys2Proof.Machine

/-- What an instruction may do beyond the registers and flags of its encoding. -/
structure Licence where
  /-- It waits for the lock. -/
  waits : Prop := False
  /-- It transfers with a change of mode. -/
  exchanges : Prop := False
  clearsQ : Prop := False
  clearsSat : Prop := False
  clearsIoc : Prop := False
  /-- It writes the sampled part of the vector status. -/
  samples : Prop := False
  sysRegs : Prop := False
  /-- The mask of an `IT` is not empty. -/
  masked : Prop := True

variable {m : Mode} {j : Jump} {l : Licence} {qs : List Request} {s u : State}

/-! ### The registers that the encodings write -/

/-- `u` is `s` with registers, flags and memory written as instructions of mode `m` write them. -/
structure Writes (m : Mode) (l : Licence) (s u : State) : Prop where
  pc : u.pc = s.pc
  mode : u.mode = s.mode
  priv : u.priv = s.priv
  itstate : u.itstate = s.itstate
  lock : u.lock = s.lock
  ctx : u.ctx = s.ctx
  lastExit : u.lastExit = s.lastExit
  raised : u.raised = s.raised
  cfg : u.cfg = s.cfg
  env : u.env = s.env
  mem : Memory.wf s.mem = true → Memory.wf u.mem = true
  wide : m ≠ .w64 → u.x = s.x ∧ u.sp = s.sp
  narrow : m = .w64 → u.r = s.r
  vector : m ≠ .f32 → u.vec = s.vec ∧ u.vstat = s.vstat ∧ u.flags.q = s.flags.q
  q : s.flags.q = true → u.flags.q = false → l.clearsQ
  sat : ∀ j : Fin 8, s.vstat.sat[j] = true → u.vstat.sat[j] = false → l.clearsSat
  ioc : s.vstat.ioc = true → u.vstat.ioc = false → l.clearsIoc
  sampled : (u.vstat.en = s.vstat.en ∧ u.vstat.len = s.vstat.len ∧ u.vstat.stride = s.vstat.stride) ∨ l.samples
  sysRegs : u.sysRegs = s.sysRegs ∨ l.sysRegs

namespace Writes

protected theorem refl : Writes m l s s where
  pc := rfl
  mode := rfl
  priv := rfl
  itstate := rfl
  lock := rfl
  ctx := rfl
  lastExit := rfl
  raised := rfl
  cfg := rfl
  env := rfl
  mem := id
  wide _ := ⟨rfl, rfl⟩
  narrow _ := rfl
  vector _ := ⟨rfl, rfl, rfl⟩
  q h h' := absurd h (by simp [h'])
  sat _ h h' := absurd h (by simp [h'])
  ioc h h' := absurd h (by simp [h'])
  sampled := .inl ⟨rfl, rfl, rfl⟩
  sysRegs := .inl rfl

theorem setR (h : Writes m l s u) (hm : m ≠ .w64) (i : Fin 16) (v : Word) : Writes m l s (u.setR i v) := by
  unfold State.setR
  split
  · exact { h with narrow := fun e => absurd e hm }
  · exact h

theorem writeBack32 (h : Writes m l s u) (hm : m ≠ .w64) (i : Fin 16) (b : Option Word) :
    Writes m l s (u.writeBack32 i b) := by
  cases b with
  | none => exact h
  | some v => exact h.setR hm i v

theorem writeLoaded (h : Writes m l s u) (hm : m ≠ .w64) (vs : List (Fin 16 × Word)) :
    Writes m l s (u.writeLoaded vs) := by
  induction vs generalizing u with
  | nil => exact h
  | cons p vs ih => exact ih (h.setR hm p.1 p.2)

theorem setX (h : Writes .w64 l s u) (i : Fin 32) (v : DWord) : Writes .w64 l s (u.setX i v) := by
  unfold State.setX
  split
  · exact { h with wide := fun e => absurd rfl e }
  · exact h

theorem setXsp (h : Writes .w64 l s u) (i : Fin 32) (v : DWord) : Writes .w64 l s (u.setXsp i v) := by
  unfold State.setXsp
  split <;> exact { h with wide := fun e => absurd rfl e }

theorem writeBackX (h : Writes .w64 l s u) (i : Fin 32) (b : Option DWord) : Writes .w64 l s (u.writeBackX i b) := by
  cases b with
  | none => exact h
  | some v => exact h.setXsp i v

theorem setMem (h : Writes m l s u) {mem : List Host.Cell} (hmem : Memory.wf u.mem = true → Memory.wf mem = true) :
    Writes m l s { u with mem := mem } :=
  { h with mem := fun hs => hmem (h.mem hs) }

theorem setFlags (h : Writes m l s u) {f : Flags} (hq : f.q = u.flags.q) : Writes m l s { u with flags := f } :=
  { h with
    vector := fun hm => by
      obtain ⟨hv, hs, hf⟩ := h.vector hm
      exact ⟨hv, hs, hq.trans hf⟩
    q := fun hs hf => h.q hs (hq ▸ hf) }

/-- F32 alone writes `Q`: sticky, or with the licence to clear it. -/
theorem setFlagsQ (h : Writes .f32 l s u) {f : Flags} (hq : u.flags.q = true → f.q = false → l.clearsQ) :
    Writes .f32 l s { u with flags := f } :=
  { h with
    vector := fun hm => absurd rfl hm
    q := fun hs hf => by
      cases hu : u.flags.q with
      | true => exact hq hu hf
      | false => exact h.q hs hu }

theorem setV (h : Writes .f32 l s u) (i : Fin 16) (v : DWord) : Writes .f32 l s (u.setV i v) :=
  { h with vector := fun hm => absurd rfl hm }

theorem recordPred (h : Writes .f32 l s u) (p : BitVec 8) : Writes .f32 l s (u.recordPred p) :=
  { h with vector := fun hm => absurd rfl hm }

theorem recordInvalid (h : Writes .f32 l s u) (b : Bool) : Writes .f32 l s (u.recordInvalid b) :=
  { h with
    vector := fun hm => absurd rfl hm
    ioc := fun hs hf => h.ioc hs (Bool.or_eq_false_iff.1 hf).1 }

theorem recordSat (h : Writes .f32 l s u) (p : BitVec 8) : Writes .f32 l s (u.recordSat p) :=
  { h with
    vector := fun hm => absurd rfl hm
    q := fun hs hf => h.q hs (Bool.or_eq_false_iff.1 hf).1
    sat := fun j hs hf => h.sat j hs (by
      have hor : (u.vstat.sat ||| p)[j] = false := hf
      exact (Bool.or_eq_false_iff.1 (by simpa using hor)).1) }

theorem setVstat (h : Writes .f32 l s u) {v : VecStatus}
    (hsat : ∀ j : Fin 8, u.vstat.sat[j] = true → v.sat[j] = false → l.clearsSat)
    (hioc : u.vstat.ioc = true → v.ioc = false → l.clearsIoc)
    (hs : (v.en = s.vstat.en ∧ v.len = s.vstat.len ∧ v.stride = s.vstat.stride) ∨ l.samples) :
    Writes .f32 l s { u with vstat := v } :=
  { h with
    vector := fun hm => absurd rfl hm
    sat := fun j h0 h1 => by
      cases hu : u.vstat.sat[j] with
      | true => exact hsat j hu h1
      | false => exact h.sat j h0 hu
    ioc := fun h0 h1 => by
      cases hu : u.vstat.ioc with
      | true => exact hioc hu h1
      | false => exact h.ioc h0 hu
    sampled := hs }

theorem setSysRegs (h : Writes m l s u) (hl : l.sysRegs) (cells : List SysCell) :
    Writes m l s { u with sysRegs := cells } := { h with sysRegs := .inr hl }

end Writes

/-! ### The moves of `pc` -/

/-- How a completed instruction leaves for the next one, from the state `u` with its registers written. -/
inductive Moves (l : Licence) (u : State) : Mode → Jump → State → Prop
  | next4 {j : Jump} : Moves l u .f32 j u.next4
  | branchF {j : Jump} (hj : j ≠ .none) (v : Word) : Moves l u .f32 j (u.branchF v)
  | targetF {j : Jump} (hj : j ≠ .none) (imm24 : BitVec 24) : Moves l u .f32 j (u.setPc32 (u.targetF imm24))
  | exchangeF {j : Jump} (hj : j ≠ .none) (hl : l.exchanges) (v : Word) : Moves l u .f32 j (u.branchExchange v)
  | enterC {j : Jump} (hj : j ≠ .none) (hl : l.exchanges) (imm24 : BitVec 24) (h : Bool) :
      Moves l u .f32 j { u.setPc32 (u.targetF imm24 + (if h then 2 else 0)) with mode := .c16 }
  | next2 {j : Jump} : Moves l u .c16 j u.next2
  | finish2 {j : Jump} : Moves l u .c16 j u.finish2
  | group {j : Jump} {firstcond mask : BitVec 4} (hl : l.masked → mask ≠ 0) :
      Moves l u .c16 j (State.next2 { u with itstate := firstcond ++ mask })
  | branchC {j : Jump} (hj : j ≠ .none) (v : Word) : Moves l u .c16 j (u.branchC v)
  | aheadC {j : Jump} (hj : j ≠ .none) (off : Word) :
      Moves l u .c16 j (u.setPc32 (u.aheadC (off <<< 1))).advanceIt
  | exchangeC {j : Jump} (hj : j ≠ .none) (hl : l.exchanges) (hb : u.mayBranch = true) (v : Word) :
      Moves l u .c16 j (u.branchExchange v).advanceIt
  | leaveC {j : Jump} (hj : j ≠ .none) (hl : l.exchanges) (hb : u.mayBranch = true) (v : Word) :
      Moves l u .c16 j (State.advanceIt { u.setPc32 (v &&& ~~~3#32) with mode := .f32 })
  | nextW {j : Jump} : Moves l u .w64 j u.nextW
  | branchW {j : Jump} (hj : j ≠ .none) (v : DWord) : Moves l u .w64 j (u.branchW v)
  | offsetW {j : Jump} (hj : j ≠ .none) (off : DWord) : Moves l u .w64 j { u with pc := u.pc + (off <<< 2) }

/-! ### What an instruction answers -/

/-- The first refused request ends the instruction: memory holds the writes before it, and the raise is pending. -/
def AbortsAt (bits : Nat) (qs : List Request) (s t : State) : Prop :=
  ∃ before q after mem,
    qs = before ++ q :: after ∧ (∀ p ∈ before, s.refuses p = false) ∧ s.refuses q = true ∧
    ((∀ p ∈ before, p.written = none) → mem = s.mem) ∧
    (Memory.wf s.mem = true →
      Memory.wf mem = true ∧ ReadsAs mem (writtenOver s.cfg.endian bits (Memory.get s.mem) before)) ∧
    t = { s with mem := mem, raised := some ⟨.dataAbort, s.pc, some q.access⟩ }

/-- The width of the addresses of a mode (20_memory.md R75). -/
def modeBits (m : Mode) : Nat := if m = .w64 then 64 else 32

/-- The state after an instruction of mode `m` with the requests `qs`. -/
inductive Effect (m : Mode) (j : Jump) (l : Licence) (qs : List Request) (s : State) : State → Prop
  | undef (hq : qs = []) : Effect m j l qs s s.undef
  | waits (hq : qs = []) (hl : l.waits) : Effect m j l qs s s
  | aborts {t : State} (h : AbortsAt (modeBits m) qs s t) : Effect m j l qs s t
  | done {u t : State} (hq : ∀ q ∈ qs, s.refuses q = false) (hu : Writes m l s u) (ht : Moves l u m j t) :
      Effect m j l qs s t

/-- The outcome is a next state that the effect describes. -/
def Answers (m : Mode) (j : Jump) (l : Licence) (qs : List Request) (s : State)
    (o : Host.Outcome State Fault Refusal) : Prop := ∃ t, o = .next t ∧ Effect m j l qs s t

theorem answers_next {t : State} (h : Effect m j l qs s t) : Answers m j l qs s (.next t) := ⟨t, rfl, h⟩

/-- An instruction without requests that writes and moves. -/
theorem answers_done {t : State} (hu : Writes m l s u) (ht : Moves l u m j t) : Answers m j l [] s (.next t) :=
  answers_next (.done nofun hu ht)

theorem answers_f32Run {c : Cond} {body : State → State} (hskip : ¬ s.passes c → qs = [])
    (hbody : s.passes c → Effect .f32 j l qs s (body s)) : Answers .f32 j l qs s (f32Run c s body) := by
  by_cases hc : s.passes c
  · rw [f32Run_pass hc]
    exact answers_next (hbody hc)
  · rw [f32Run_fail (by simpa [State.passes] using hc), hskip hc]
    exact answers_done .refl .next4

theorem answers_c16Run {legal : State → Bool} {body : State → State}
    (hskip : ¬ (s.slotRuns ∧ legal s = true) → qs = [])
    (hbody : s.slotRuns → legal s = true → Effect .c16 j l qs s (body s)) :
    Answers .c16 j l qs s (c16Run legal s body) := by
  by_cases hr : s.slotRuns
  · by_cases hl : legal s = true
    · rw [c16Run_pass hr hl]
      exact answers_next (hbody hr hl)
    · rw [c16Run_illegal hr (by simpa using hl), hskip fun h => hl h.2]
      exact answers_next (.undef rfl)
  · rw [c16Run_fail (by simpa [State.slotRuns] using hr), hskip fun h => hr h.1]
    exact answers_done .refl .finish2

end Sys2Proof.Machine
end

section
/-! PROOFS. The effect of the operations that make no data request: a lemma for each shared operation of the model, under
the name of the operation. -/

namespace Sys2Proof.Machine

variable {j : Jump} {l : Licence} {s : State}

/-! ### F32 data processing -/

theorem AluOut.flags_q (o : AluOut) (f : Flags) (c : Bool) : (o.flags f c).q = f.q := by cases o <;> rfl

theorem ofPc_ne_none {b : Bool} (h : b = true) : Jump.ofPc b ≠ .none := by
  subst h
  nofun

theorem answers_dataProcessing (alu : Alu) (f : F32.DP) :
    Answers .f32 (.ofPc (f.rd == 15)) l [] s (dataProcessing alu f s) := by
  refine answers_f32Run (fun _ => rfl) fun _ => ?_
  dsimp only
  split
  · exact .undef rfl
  · set out := alu (s.rF f.rn) (s.op2 f.op2).value s.flags.c
    have hw : Writes .f32 l s (if f.s then { s with flags := out.flags s.flags (s.op2 f.op2).carry } else s) := by
      split
      · exact Writes.refl.setFlags (out.flags_q ..)
      · exact .refl
    split
    · exact .done nofun hw (.branchF (ofPc_ne_none (by simpa)) _)
    · exact .done nofun (hw.setR (by nofun) _ _) .next4

theorem answers_dataCompare (alu : Alu) (f : F32.DPC) : Answers .f32 .none l [] s (dataCompare alu f s) := by
  refine answers_f32Run (fun _ => rfl) fun _ => ?_
  dsimp only
  split
  · exact .undef rfl
  · exact .done nofun (Writes.refl.setFlags (AluOut.flags_q ..)) .next4

theorem effect_mulResult (b : Bool) (rd : Fin 16) (v : Word) : Effect .f32 j l [] s (s.mulResult b rd v) := by
  have hw : Writes .f32 l s (if b then { s with flags := s.flags.setNZ v } else s) := by
    split
    · exact Writes.refl.setFlags (by rfl)
    · exact .refl
  exact .done nofun (hw.setR (by nofun) rd v) .next4

theorem answers_mul (f : F32.MUL) : Answers .f32 .none l [] s (execF32MulMul f s) := by
  refine answers_f32Run (fun _ => rfl) fun _ => ?_
  split
  · exact .undef rfl
  · exact effect_mulResult ..

theorem answers_mla (f : F32.MLA) : Answers .f32 .none l [] s (execF32MlaMul f s) := by
  refine answers_f32Run (fun _ => rfl) fun _ => ?_
  split
  · exact .undef rfl
  · exact effect_mulResult ..

theorem answers_multiplyLong (mul : Word → Word → DWord → DWord) (f : F32.MULL) :
    Answers .f32 .none l [] s (multiplyLong mul f s) := by
  refine answers_f32Run (fun _ => rfl) fun _ => ?_
  dsimp only
  split
  · exact .undef rfl
  · set p := mul (s.rF f.rm) (s.rF f.rs) (s.rF f.rdHi ++ s.rF f.rdLo)
    have hw : Writes .f32 l s (if f.s then { s with flags := s.flags.setNZ p } else s) := by
      split
      · exact Writes.refl.setFlags (by rfl)
      · exact .refl
    exact .done nofun ((hw.setR (by nofun) _ _).setR (by nofun) _ _) .next4

theorem answers_saturating (op : Int → Int → Int × Bool) (f : F32.SAT) :
    Answers .f32 .none l [] s (saturating op f s) := by
  refine answers_f32Run (fun _ => rfl) fun _ => ?_
  dsimp only
  split
  · exact .undef rfl
  · refine .done nofun ((Writes.refl.setFlagsQ fun hq hf => ?_).setR (by nofun) _ _) .next4
    rw [(Bool.or_eq_false_iff.1 hf).1] at hq
    cases hq

theorem answers_mrs (f : F32.MRS) : Answers .f32 .none l [] s (execF32MrsMisc f s) := by
  refine answers_f32Run (fun _ => rfl) fun _ => ?_
  split
  · exact .undef rfl
  · exact .done nofun (Writes.refl.setR (by nofun) _ _) .next4

theorem effect_writeSR {fmask : BitVec 4} (hl : fmask[3] = true → l.clearsQ) (v : Word) :
    Effect .f32 j l [] s (s.writeSR fmask v) := by
  unfold State.writeSR
  split
  · exact .done nofun (Writes.refl.setFlagsQ fun _ _ => hl ‹_›) .next4
  · exact .done nofun .refl .next4

theorem answers_msr {f : F32.MSR} (hl : f.fmask[3] = true → l.clearsQ) :
    Answers .f32 .none l [] s (execF32MsrMisc f s) := by
  refine answers_f32Run (fun _ => rfl) fun _ => ?_
  split
  · exact .undef rfl
  · exact effect_writeSR hl _

theorem answers_msri {f : F32.MSRI} (hl : f.fmask[3] = true → l.clearsQ) :
    Answers .f32 .none l [] s (execF32MsrMsri f s) := by
  refine answers_f32Run (fun _ => rfl) fun _ => ?_
  split
  · exact .undef rfl
  · exact effect_writeSR hl _

/-! ### F32 branches and privileged-state registers -/

theorem answers_b (f : F32.BR) : Answers .f32 .direct l [] s (execF32BBr f s) :=
  answers_f32Run (fun _ => rfl) fun _ => .done nofun .refl (.targetF (by nofun) _)

theorem answers_bl (f : F32.BR) : Answers .f32 .direct l [] s (execF32BlBr f s) := by
  refine answers_f32Run (fun _ => rfl) fun _ => .done nofun (Writes.refl.setR (by nofun) 14 (s.ia32 + 4)) ?_
  rw [show s.targetF f.imm24 = (s.setR 14 (s.ia32 + 4)).targetF f.imm24 by simp [State.targetF]]
  exact .targetF (by nofun) _

theorem answers_bx {f : F32.BXR} (hl : l.exchanges) : Answers .f32 .indirect l [] s (execF32BxMisc f s) :=
  answers_f32Run (fun _ => rfl) fun _ => .done nofun .refl (.exchangeF (by nofun) hl _)

theorem answers_blx {f : F32.BXR} (hl : l.exchanges) : Answers .f32 .indirect l [] s (execF32BlxMisc f s) := by
  refine answers_f32Run (fun _ => rfl) fun _ => ?_
  split
  · exact .undef rfl
  · exact .done nofun (Writes.refl.setR (by nofun) _ _) (.exchangeF (by nofun) hl _)

theorem answers_blxi {f : F32.BLXI} (hl : l.exchanges) : Answers .f32 .indirect l [] s (execF32BlxBlxi f s) := by
  refine answers_next (.done nofun (Writes.refl.setR (by nofun) 14 (s.ia32 + 4)) ?_)
  rw [show s.targetF f.imm24 = (s.setR 14 (s.ia32 + 4)).targetF f.imm24 by simp [State.targetF]]
  exact .enterC (by nofun) hl _ _

theorem answers_sysr (f : F32.SYS) : Answers .f32 .none l [] s (execF32SysrSys f s) := by
  refine answers_f32Run (fun _ => rfl) fun _ => ?_
  split
  · exact .undef rfl
  · split
    · exact .undef rfl
    · split
      · exact .done nofun (Writes.refl.setR (by nofun) _ _) .next4
      · exact .undef rfl

theorem answers_sysw {f : F32.SYS} (hl : s.priv = .privileged → l.sysRegs) :
    Answers .f32 .none l [] s (execF32SyswSys f s) := by
  refine answers_f32Run (fun _ => rfl) fun _ => ?_
  split
  · exact .undef rfl
  · next h =>
    rw [not_or] at h
    have hpriv : s.priv = .privileged := by
      cases hp : s.priv with
      | user => exact absurd hp h.1
      | privileged => rfl
    split
    · exact .undef rfl
    · split
      · exact .done nofun (Writes.refl.setSysRegs (hl hpriv) _) .next4
      · exact .undef rfl

/-! ### The vector unit -/

theorem answers_laneRun (legal : F32.VOP → Bool) (f : F32.VOP) {body : State → State} (hw : Writes .f32 l s (body s)) :
    Answers .f32 .none l [] s (laneRun legal f s body) := by
  refine answers_f32Run (fun _ => rfl) fun _ => ?_
  split
  · exact .done nofun hw .next4
  · exact .undef rfl

theorem answers_laneCell (legal : F32.VOP → Bool) (op : DWord → DWord → DWord) (f : F32.VOP) :
    Answers .f32 .none l [] s (laneCell legal op f s) := answers_laneRun _ _ (Writes.refl.setV _ _)

theorem answers_laneSat (legal : F32.VOP → Bool) (w : Nat) (op : DWord → DWord → List (Nat × Bool)) (f : F32.VOP) :
    Answers .f32 .none l [] s (laneSat legal w op f s) :=
  answers_laneRun _ _ ((Writes.refl.setV _ _).recordSat _)

theorem answers_laneMap (legal : F32.VOP → Bool) (op : Nat → Nat → Nat → Nat) (f : F32.VOP) :
    Answers .f32 .none l [] s (laneMap legal op f s) := by
  unfold laneMap
  exact answers_laneCell legal _ f

theorem answers_laneWiden (top : Bool) (f : F32.VOP) : Answers .f32 .none l [] s (laneWiden top f s) := by
  unfold laneWiden
  exact answers_laneCell szWiden _ f

theorem answers_laneDot (acc : State → Nat → Nat) (f : F32.VOP) : Answers .f32 .none l [] s (laneDot acc f s) := by
  unfold laneDot
  exact answers_laneCell szWiden _ f

theorem answers_vpack (f : F32.VOP) : Answers .f32 .none l [] s (execF32VpackVop f s) := by
  unfold execF32VpackVop
  exact answers_laneCell szNarrow0 _ f

theorem answers_laneSatMap (op : Nat → Bool → Nat → Nat → Nat × Bool) (f : F32.VOP) :
    Answers .f32 .none l [] s (laneSatMap op f s) := by
  unfold laneSatMap
  exact answers_laneSat szAny _ _ f

theorem answers_vqpack (f : F32.VOP) : Answers .f32 .none l [] s (execF32VqpackVop f s) := by
  unfold execF32VqpackVop
  exact answers_laneSat szNarrow _ _ f

theorem answers_laneCompare (legal : F32.VOP → Bool) (test : Nat → Nat → Nat → Bool) (f : F32.VOP) :
    Answers .f32 .none l [] s (laneCompare legal test f s) :=
  answers_laneRun _ _ ((Writes.refl.setV _ _).recordPred _)

theorem answers_laneFloat (cmp : Nat → Nat → Nat → FloatRel × Bool) (test : FloatRel → Bool) (f : F32.VOP) :
    Answers .f32 .none l [] s (laneFloat cmp test f s) :=
  answers_laneRun _ _ (((Writes.refl.setV _ _).recordPred _).recordInvalid _)

theorem Flags.ofRel_q (f : Flags) (r : FloatRel) : (f.ofRel r).q = f.q := by cases r <;> rfl

theorem answers_laneFloatFlags (quiet : Bool) (f : F32.VOP) :
    Answers .f32 .none l [] s (laneFloatFlags quiet f s) :=
  answers_laneRun _ _ ((Writes.refl.setFlags (Flags.ofRel_q _ _)).recordInvalid _)

theorem answers_vmovtv (f : F32.VXFER) : Answers .f32 .none l [] s (execF32VmovtvVxfer f s) := by
  refine answers_f32Run (fun _ => rfl) fun _ => ?_
  split
  · exact .undef rfl
  · exact .done nofun (Writes.refl.setV _ _) .next4

theorem answers_vmovfv (f : F32.VXFER) : Answers .f32 .none l [] s (execF32VmovfvVxfer f s) := by
  refine answers_f32Run (fun _ => rfl) fun _ => ?_
  split
  · exact .undef rfl
  · exact .done nofun ((Writes.refl.setR (by nofun) _ _).setR (by nofun) _ _) .next4

theorem answers_vmrs (f : F32.VCTL) : Answers .f32 .none l [] s (execF32VmrsVctl f s) := by
  refine answers_f32Run (fun _ => rfl) fun _ => ?_
  split
  · exact .undef rfl
  · split
    · exact .undef rfl
    · exact .done nofun (Writes.refl.setR (by nofun) _ _) .next4

/-- A control register write keeps the sticky fields of the other registers. -/
theorem writeControl_sticky {v v' : VecStatus} {p : Priv} {n : BitVec 4} {x : Word}
    (h : v.writeControl p n x = some v') :
    (v'.sat = v.sat ∨ n = 2 ∧ v.en = true) ∧ (v'.ioc = v.ioc ∨ n = 1 ∧ v.en = true) := by
  have hn (k : Nat) (hk : n.toNat = k) : n = BitVec.ofNat 4 k := by rw [← hk, BitVec.ofNat_toNat, BitVec.setWidth_eq]
  unfold VecStatus.writeControl at h
  split at h
  case h_5 => cases h
  all_goals split at h <;> cases h
  · exact ⟨.inl rfl, .inl rfl⟩
  · exact ⟨.inl rfl, .inr ⟨hn 1 ‹_›, ‹_›⟩⟩
  · exact ⟨.inr ⟨hn 2 ‹_›, ‹_›⟩, .inl rfl⟩
  · exact ⟨.inl rfl, .inl rfl⟩

theorem answers_vmsr {f : F32.VCTL} (hsat : f.vcn = 2 ∧ s.vstat.en = true → l.clearsSat)
    (hioc : f.vcn = 1 ∧ s.vstat.en = true → l.clearsIoc) (hs : s.passes f.cond → l.samples) :
    Answers .f32 .none l [] s (execF32VmsrVctl f s) := by
  refine answers_f32Run (fun _ => rfl) fun hc => ?_
  split
  · exact .undef rfl
  · split
    · exact .undef rfl
    · next v hv =>
      obtain ⟨hsatKept, hiocKept⟩ := writeControl_sticky hv
      refine .done nofun (Writes.refl.setVstat (fun j h0 h1 => hsat (hsatKept.resolve_left fun e => ?_))
        (fun h0 h1 => hioc (hiocKept.resolve_left fun e => ?_)) (.inr (hs hc))) .next4
      · rw [e, h0] at h1
        cases h1
      · rw [e, h0] at h1
        cases h1

/-! ### C16 -/

theorem Writes.withFlagsS {m : Mode} {u : State} (h : Writes m l s u) {f : Flags} (hq : f.q = u.flags.q) :
    Writes m l s (u.withFlagsS f) := by
  unfold State.withFlagsS
  split
  · exact h
  · exact h.setFlags hq

theorem answers_c16Always {body : State → State} (h : Effect .c16 j l [] s (body s)) :
    Answers .c16 j l [] s (c16Run always s body) := answers_c16Run (fun _ => rfl) fun _ _ => h

theorem answers_c16Shift (rd : Fin 8) (op : State → Shifted) : Answers .c16 j l [] s (c16Shift rd op s) :=
  answers_c16Always (.done nofun ((Writes.refl.withFlagsS (by rfl)).setR (by nofun) _ _) .finish2)

theorem answers_c16Logical (rd : Fin 8) (op : State → Word) : Answers .c16 j l [] s (c16Logical rd op s) :=
  answers_c16Always (.done nofun ((Writes.refl.withFlagsS (by rfl)).setR (by nofun) _ _) .finish2)

theorem answers_c16Arith (rd : Fin 8) (op : State → Sum 32) : Answers .c16 j l [] s (c16Arith rd op s) :=
  answers_c16Always (.done nofun ((Writes.refl.withFlagsS (by rfl)).setR (by nofun) _ _) .finish2)

theorem answers_c16Compare (legal : State → Bool) (op : State → Sum 32) :
    Answers .c16 j l [] s (c16Compare legal op s) :=
  answers_c16Run (fun _ => rfl) fun _ _ => .done nofun (Writes.refl.setFlags (by rfl)) .finish2

theorem answers_c16Move (rd : Fin 16) (op : State → Word) : Answers .c16 j l [] s (c16Move rd op s) :=
  answers_c16Always (.done nofun (Writes.refl.setR (by nofun) _ _) .finish2)

theorem answers_c16Tst (f : C16.ALU) : Answers .c16 j l [] s (execC16TstAlu f s) :=
  answers_c16Always (.done nofun (Writes.refl.setFlags (by rfl)) .finish2)

theorem answers_c16Nop : Answers .c16 j l [] s (execC16NopHint s) :=
  answers_c16Always (.done nofun .refl .finish2)

theorem answers_it {f : C16.IT} (hl : l.masked → f.mask ≠ 0) : Answers .c16 j l [] s (execC16ItIt f s) :=
  answers_c16Run (fun _ => rfl) fun _ _ => .done nofun .refl (.group hl)

theorem answers_c16High (d : Fin 16) (op : State → Word) : Answers .c16 (.ofPc (d == 15)) l [] s (c16High d op s) := by
  refine answers_c16Run (fun _ => rfl) fun _ _ => ?_
  split
  · exact .done nofun .refl (.branchC (ofPc_ne_none (by simpa)) _)
  · exact .done nofun (Writes.refl.setR (by nofun) _ _) .finish2

theorem setR_mayBranch (u : State) (i : Fin 16) (v : Word) : (u.setR i v).mayBranch = u.mayBranch := by
  simp [State.mayBranch, State.inGroup, State.lastSlot]

theorem answers_c16Bx {f : C16.BXR} (hl : l.exchanges) : Answers .c16 .indirect l [] s (execC16BxBx f s) :=
  answers_c16Run (fun _ => rfl) fun _ hb => .done nofun .refl (.exchangeC (by nofun) hl hb _)

theorem answers_c16Blx {f : C16.BXR} (hl : l.exchanges) : Answers .c16 .indirect l [] s (execC16BlxBx f s) :=
  answers_c16Run (fun _ => rfl) fun _ hb => .done nofun (Writes.refl.setR (by nofun) 14 s.linkC)
    (.exchangeC (by nofun) hl ((setR_mayBranch ..).trans (Bool.and_eq_true_iff.1 hb).2) _)

theorem answers_c16Bcond (b : Bool) (f : C16.BC) : Answers .c16 (.tested b) l [] s (execC16BBc f s) := by
  refine answers_c16Run (fun _ => rfl) fun _ _ => ?_
  split
  · exact .done nofun .refl (.aheadC (by nofun) _)
  · exact .done nofun .refl .finish2

theorem answers_c16B (f : C16.B) : Answers .c16 .direct l [] s (execC16BB f s) :=
  answers_c16Run (fun _ => rfl) fun _ _ => .done nofun .refl (.aheadC (by nofun) _)

theorem answers_c16Bl1 (f : C16.BL1) : Answers .c16 j l [] s (execC16BlBl1 f s) := by
  refine answers_next ?_
  split
  · exact .done nofun (Writes.refl.setR (by nofun) _ _) .next2
  · exact .done nofun .refl .next2

theorem answers_c16Bl2 (f : C16.BL2) : Answers .c16 .direct l [] s (execC16BlBl2 f s) :=
  answers_c16Run (fun _ => rfl) fun _ _ => .done nofun (Writes.refl.setR (by nofun) _ _) (.branchC (by nofun) _)

theorem answers_c16BlxBl2 {f : C16.BL2X} (hl : l.exchanges) : Answers .c16 .indirect l [] s (execC16BlxBl2 f s) :=
  answers_c16Run (fun _ => rfl) fun _ hb => .done nofun (Writes.refl.setR (by nofun) 14 s.linkC)
    (.leaveC (by nofun) hl ((setR_mayBranch ..).trans hb) _)

/-! ### W64 -/

theorem answers_w64Write (rd : Fin 32) (v : DWord) : Answers .w64 j l [] s (w64Write rd v s) :=
  answers_done (Writes.refl.setX _ _) .nextW

theorem answers_setXsp (rd : Fin 32) (v : DWord) : Answers .w64 j l [] s (.next (s.setXsp rd v).nextW) :=
  answers_done (Writes.refl.setXsp _ _) .nextW

theorem answers_w64WriteFlags (rd : Fin 32) {r : DWord × Flags} (hq : r.2.q = s.flags.q) :
    Answers .w64 j l [] s (w64WriteFlags rd r s) := answers_done ((Writes.refl.setFlags hq).setX _ _) .nextW

theorem sumAt_q (sf : Bool) (f : Flags) (op : (w : Nat) → (DWord → BitVec w) → Sum w) : (sumAt sf f op).2.q = f.q := by
  cases sf <;> rfl

theorem logicalAt_q (sf : Bool) (f : Flags) (op : (w : Nat) → (DWord → BitVec w) → BitVec w) :
    (logicalAt sf f op).2.q = f.q := by cases sf <;> rfl

theorem answers_w64Relative {u : State} (hu : Writes .w64 l s u) (hj : j ≠ .none) (b : Bool) (off : DWord) :
    Answers .w64 j l [] s (w64Relative b off u) := by
  refine answers_next ?_
  split
  · exact .done nofun hu (.offsetW hj _)
  · exact .done nofun hu .nextW

theorem answers_branchW {u : State} (hu : Writes .w64 l s u) (a : DWord) :
    Answers .w64 .indirect l [] s (.next (u.branchW a)) := answers_done hu (.branchW (by nofun) a)

theorem answers_w64Nop : Answers .w64 j l [] s (execW64NopSys s) := answers_done .refl .nextW

theorem answers_w64Msr (f : W64.SYS) : Answers .w64 j l [] s (execW64MsrSys f s) :=
  answers_done (Writes.refl.setFlags (by rfl)) .nextW

end Sys2Proof.Machine
end

section
/-! PROOFS. The effect of the operations that make data requests: which request ends them, and what memory holds then. -/

namespace Sys2Proof.Machine

variable {m : Mode} {j : Jump} {l : Licence} {qs : List Request} {s u : State}

/-! ### Requests and their answers -/

/-- A read of the address space of any mode. -/
def Request.load (acc : Priv) (a : DWord) (n : Nat) : Request := ⟨acc, a, n, none⟩

/-- A write of the address space of any mode. -/
def Request.store (acc : Priv) (a : DWord) (n v : Nat) : Request := ⟨acc, a, n, some v⟩

theorem abortsAt_first {bits : Nat} {q : Request} {after : List Request} (hq : s.refuses q = true) :
    AbortsAt bits (q :: after) s (s.dataAbort q.access) :=
  ⟨[], q, after, s.mem, rfl, nofun, hq, fun _ => rfl, fun hm => ⟨hm, fun _ => rfl⟩, rfl⟩

/-- A refusal after an answered read. -/
theorem abortsAt_afterLoad {bits : Nat} {acc : Priv} {a : DWord} {n : Nat} {t : State}
    (h0 : s.aborts .read a n acc = false) (h : AbortsAt bits qs s t) : AbortsAt bits (.load acc a n :: qs) s t := by
  obtain ⟨before, q, after, mem, rfl, hb, hq, hr, hm, ht⟩ := h
  refine ⟨.load acc a n :: before, q, after, mem, rfl, List.forall_mem_cons.2 ⟨h0, hb⟩, hq, fun hw => hr ?_, hm, ht⟩
  exact (List.forall_mem_cons.1 hw).2

/-- A refusal after an answered write. -/
theorem abortsAt_afterStore {bits : Nat} (hbits : bits ≤ 64) {acc : Priv} {a : DWord} {n v : Nat}
    (ha : a.toNat < 2 ^ bits) (hn : n ≤ 2 ^ bits) (h0 : s.aborts .write a n acc = false) {mem : List Host.Cell}
    (hmem : mem = Memory.store s.mem s.cfg.endian bits a.toNat n v) {t : State}
    (h : AbortsAt bits qs { s with mem := mem } t) : AbortsAt bits (.store acc a n v :: qs) s t := by
  subst hmem
  obtain ⟨before, q, after, mem, rfl, hb, hq, -, hm, ht⟩ := h
  refine ⟨.store acc a n v :: before, q, after, mem, rfl, List.forall_mem_cons.2 ⟨h0, hb⟩, hq, fun hw => ?_,
    fun hs => ?_, ht⟩
  · exact nomatch (List.forall_mem_cons.1 hw).1
  · have hfirst := Memory.get_store hs s.cfg.endian hbits ha hn v
    obtain ⟨hwf, hread⟩ := hm (Memory.wf_store hs _ hbits _ _ _)
    refine ⟨hwf, fun x => (hread x).trans ?_⟩
    rw [show Memory.get _ = _ from funext hfirst]
    rfl

/-! ### A write after a write: the port answers as before -/

theorem store_setMem_ok {mem : List Host.Cell} {sp : Space} {acc : Priv} {a : DWord} {n : Nat}
    (h : s.aborts .write a n acc = false) (v : Nat) :
    State.store { s with mem := mem } sp acc a n v =
      .ok { s with mem := Memory.store mem s.cfg.endian sp.bits a.toNat n v } :=
  store_ok (s := { s with mem := mem }) h v

theorem store_setMem_abort {mem : List Host.Cell} {sp : Space} {acc : Priv} {a : DWord} {n : Nat}
    (h : s.aborts .write a n acc = true) (v : Nat) :
    State.store { s with mem := mem } sp acc a n v = .error ⟨a, true, n⟩ :=
  store_abort (s := { s with mem := mem }) h v

/-! ### F32 single-register transfers -/

theorem f32Requests_of_not {c : Cond} {legal : Bool} (h : ¬ (s.passes c ∧ legal = true)) :
    s.f32Requests c legal qs = [] := by
  rw [State.f32Requests, if_neg]
  simpa [State.passes] using h

theorem f32Requests_of_pass {c : Cond} {legal : Bool} (hc : s.passes c) (h : legal = true) :
    s.f32Requests c legal qs = qs := by
  rw [State.f32Requests, if_pos]
  rw [show s.flags.condPassed c = true from hc, h]
  rfl

theorem f32Requests_of_fail {c : Cond} {legal : Bool} (hc : ¬ s.passes c) : s.f32Requests c legal qs = [] :=
  f32Requests_of_not fun h => hc h.1

theorem f32Requests_of_illegal {c : Cond} {legal : Bool} (h : legal = false) : s.f32Requests c legal qs = [] :=
  f32Requests_of_not fun h' => by simp [h] at h'

theorem SingleAddr.legal_eq (a : SingleAddr) : a.legal = !a.undefined := by
  rw [SingleAddr.legal, SingleAddr.undefined]
  cases a.rmIs15 <;> cases a.wback <;> cases h : a.rn == 15 <;> simp_all

theorem State.storeValue_eq (s : State) (i : Fin 16) : s.storeValue i = s.storedF i := by
  unfold State.storedF
  split
  · next h => rw [h, State.storeValue, State.getR_15]
  · next h => rw [State.storeValue, State.rF_of_ne s h]

theorem single_legal_iff {a : SingleAddr} {rd : Fin 16} {p : Bool} :
    (a.legal && (p || rd != 15)) = true ↔ ¬ (a.undefined = true ∨ (rd = 15 ∧ p = false)) := by
  rw [SingleAddr.legal_eq]
  cases a.undefined <;> cases p <;> simp

theorem effect_loadSingle {c : Cond} {a : SingleAddr} {acc : Priv} {n : Nat} {ext : Nat → Word} {rd : Fin 16} {p : Bool}
    (hc : s.passes c) (hl : p = true → rd = 15 → j ≠ .none ∧ l.exchanges) :
    Effect .f32 j l (s.oneRead c a acc n rd p) s (loadSingle s a acc n ext rd p) := by
  rw [loadSingle_eq, State.oneRead]
  by_cases hu : a.undefined = true ∨ (rd = 15 ∧ p = false)
  · rw [if_pos hu]
    exact .undef (f32Requests_of_illegal (Bool.eq_false_iff.2 fun h => single_legal_iff.1 h hu))
  · rw [if_neg hu, f32Requests_of_pass hc (single_legal_iff.2 hu)]
    split
    · exact .aborts (abortsAt_first ‹_›)
    · next hr =>
      have hq : ∀ q ∈ [Request.read32 acc (a.resolve s).address n], s.refuses q = false := by
        simpa using (show s.refuses _ = false from Bool.not_eq_true _ ▸ hr)
      have hw : Writes .f32 l s (s.writeBack32 a.rn (a.resolve s).newBase) := Writes.refl.writeBack32 (by nofun) _ _
      dsimp only
      split
      · next hrd =>
        obtain ⟨hj, hex⟩ := hl (by cases p <;> simp_all) hrd
        exact .done hq hw (.exchangeF hj hex _)
      · exact .done hq (hw.setR (by nofun) _ _) .next4

theorem answers_loadSingle {c : Cond} {a : State → SingleAddr} {acc : State → Priv} {n : Nat} {ext : Nat → Word}
    {rd : Fin 16} {p : Bool} (hl : p = true → rd = 15 → j ≠ .none ∧ l.exchanges) :
    Answers .f32 j l (s.oneRead c (a s) (acc s) n rd p) s
      (f32Run c s fun s => loadSingle s (a s) (acc s) n ext rd p) :=
  answers_f32Run f32Requests_of_fail fun hc => effect_loadSingle hc hl

/-- The word forms, which accept register 15. -/
theorem answers_loadPc {c : Cond} {a : State → SingleAddr} {rd : Fin 16} (hl : rd = 15 → l.exchanges) :
    Answers .f32 (.ofPc (rd == 15)) l (s.oneRead c (a s) s.priv 4 rd true) s
      (f32Run c s fun s => loadSingle s (a s) s.priv 4 (BitVec.ofNat 32) rd true) :=
  answers_loadSingle fun _ h => ⟨ofPc_ne_none (by simpa), hl h⟩

theorem effect_storeSingle {c : Cond} {a : SingleAddr} {acc : Priv} {n : Nat} {rd : Fin 16} {p : Bool}
    (hc : s.passes c) : Effect .f32 j l (s.oneWrite c a acc n rd p) s (storeSingle s a acc n rd p) := by
  rw [storeSingle_eq, State.oneWrite]
  by_cases hu : a.undefined = true ∨ (rd = 15 ∧ p = false)
  · rw [if_pos hu]
    exact .undef (f32Requests_of_illegal (Bool.eq_false_iff.2 fun h => single_legal_iff.1 h hu))
  · rw [if_neg hu, f32Requests_of_pass hc (single_legal_iff.2 hu)]
    split
    · exact .aborts (abortsAt_first ‹_›)
    · next hr =>
      have hq : ∀ q ∈ [Request.write32 acc (a.resolve s).address n (s.storedF rd)], s.refuses q = false := by
        simpa using (show s.refuses _ = false from Bool.not_eq_true _ ▸ hr)
      have hw := (Writes.refl (m := .f32) (l := l) (s := s)).setMem
        (mem := Memory.store s.mem s.cfg.endian 32 (a.resolve s).address.toNat n (s.storeValue rd).toNat)
        fun hm => Memory.wf_store hm _ (by decide) _ _ _
      exact .done hq (hw.writeBack32 (by nofun) _ _) .next4

theorem answers_storeSingle {c : Cond} {a : State → SingleAddr} {acc : State → Priv} {n : Nat} {rd : Fin 16} {p : Bool} :
    Answers .f32 j l (s.oneWrite c (a s) (acc s) n rd p) s
      (f32Run c s fun s => storeSingle s (a s) (acc s) n rd p) :=
  answers_f32Run f32Requests_of_fail effect_storeSingle

/-! ### Two requests -/

theorem pair_legal_iff {a : SingleAddr} {rd : Fin 16} :
    (a.legal && rd.val % 2 == 0 && rd != 14) = true ↔ ¬ (a.undefined || badPair rd) = true := by
  rw [SingleAddr.legal_eq, badPair]
  have : rd.val % 2 = 0 ∨ rd.val % 2 = 1 := Nat.mod_two_eq_zero_or_one _
  rcases this with h | h <;> cases a.undefined <;> simp [h]

theorem effect_loadDouble {c : Cond} {a : SingleAddr} {rd : Fin 16} (hc : s.passes c) :
    Effect .f32 j l (s.twoReads c a rd) s (loadDouble s a rd) := by
  unfold loadDouble State.twoReads
  by_cases hu : (a.undefined || badPair rd) = true
  · rw [if_pos hu]
    exact .undef (f32Requests_of_illegal (Bool.eq_false_iff.2 fun h => pair_legal_iff.1 h hu))
  · rw [if_neg hu, f32Requests_of_pass hc (pair_legal_iff.2 hu)]
    dsimp only
    cases h1 : s.aborts .read ((a.resolve s).address.setWidth 64) 4 s.priv with
    | true =>
      rw [State.load32, load_abort h1]
      exact .aborts (abortsAt_first h1)
    | false =>
      rw [load32_ok h1]
      dsimp only
      cases h2 : s.aborts .read (((a.resolve s).address + 4).setWidth 64) 4 s.priv with
      | true =>
        rw [State.load32, load_abort h2]
        exact .aborts (abortsAt_afterLoad h1 (abortsAt_first h2))
      | false =>
        rw [load32_ok h2]
        exact .done (by simpa using ⟨h1, h2⟩)
          (((Writes.refl.writeBack32 (by nofun) _ _).setR (by nofun) _ _).setR (by nofun) _ _) .next4

theorem effect_storeDouble {c : Cond} {a : SingleAddr} {rd : Fin 16} (hc : s.passes c) :
    Effect .f32 j l (s.twoWrites c a rd) s (storeDouble s a rd) := by
  unfold storeDouble State.twoWrites
  by_cases hu : (a.undefined || badPair rd) = true
  · rw [if_pos hu]
    exact .undef (f32Requests_of_illegal (Bool.eq_false_iff.2 fun h => pair_legal_iff.1 h hu))
  · rw [if_neg hu, f32Requests_of_pass hc (pair_legal_iff.2 hu)]
    dsimp only
    cases h1 : s.aborts .write ((a.resolve s).address.setWidth 64) 4 s.priv with
    | true =>
      rw [State.store32, store_abort h1]
      exact .aborts (abortsAt_first h1)
    | false =>
      rw [store32_ok h1]
      dsimp only
      cases h2 : s.aborts .write (((a.resolve s).address + 4).setWidth 64) 4 s.priv with
      | true =>
        rw [State.store32, store_setMem_abort h2]
        refine .aborts (abortsAt_afterStore (by decide) ?_ (by decide) h1 ?_ (abortsAt_first h2))
        · rw [toNat_wide]
          exact BitVec.isLt _
        · rw [toNat_wide]
          rfl
      | false =>
        rw [State.store32, store_setMem_ok h2]
        have hw1 := (Writes.refl (m := .f32) (l := l) (s := s)).setMem
          (mem := Memory.store s.mem s.cfg.endian 32 (a.resolve s).address.toNat 4 (s.rF rd).toNat)
          fun hm => Memory.wf_store hm _ (by decide) _ _ _
        exact .done (by simpa using ⟨h1, h2⟩)
          ((hw1.setMem fun hm => Memory.wf_store hm _ (by decide) _ _ _).writeBack32 (by nofun) _ _) .next4

theorem answers_loadDouble {c : Cond} {a : State → SingleAddr} {rd : Fin 16} :
    Answers .f32 j l (s.twoReads c (a s) rd) s (f32Run c s fun s => loadDouble s (a s) rd) :=
  answers_f32Run f32Requests_of_fail effect_loadDouble

theorem answers_storeDouble {c : Cond} {a : State → SingleAddr} {rd : Fin 16} :
    Answers .f32 j l (s.twoWrites c (a s) rd) s (f32Run c s fun s => storeDouble s (a s) rd) :=
  answers_f32Run f32Requests_of_fail effect_storeDouble

theorem swap_legal_iff {f : F32.SWP} :
    (f.rd != 15 && f.rm != 15 && f.rn != 15 && s.lock == .free) = true ↔
      ¬ (f.rd = 15 ∨ f.rm = 15 ∨ f.rn = 15) ∧ s.lock = .free := by
  simp only [Bool.and_eq_true, bne_iff_ne, ne_eq, beq_iff_eq, not_or]
  tauto

/-- Under a free lock, taking it and giving it back leaves the state as it was. -/
theorem release_acquire (h : s.lock = .free) : s.acquire.release = s := by rw [State.acquire, State.release, ← h]

theorem answers_swap {n : Nat} {f : F32.SWP}
    (hl : (s.flags.condPassed f.cond && s.lock == .held && f.rd != 15 && f.rm != 15 && f.rn != 15) = true → l.waits) :
    Answers .f32 j l (s.swapRequests f n) s (swap n f s) := by
  unfold State.swapRequests
  refine answers_f32Run f32Requests_of_fail fun hc => ?_
  by_cases hu : f.rd = 15 ∨ f.rm = 15 ∨ f.rn = 15
  · rw [if_pos hu]
    exact .undef (f32Requests_of_illegal (Bool.eq_false_iff.2 fun h => (swap_legal_iff.1 h).1 hu))
  · rw [if_neg hu]
    cases hlock : s.lock with
    | held =>
      refine .waits (f32Requests_of_illegal ?_) (hl ?_)
      · simp
      · rw [not_or, not_or] at hu
        obtain ⟨h1, h2, h3⟩ := hu
        simpa [hlock, h1, h2, h3, State.passes] using hc
    | free =>
      rw [f32Requests_of_pass hc (by simpa [hlock] using swap_legal_iff.2 ⟨hu, hlock⟩)]
      dsimp only
      cases h1 : s.aborts .read ((s.rF f.rn).setWidth 64) n s.priv with
      | true =>
        rw [State.load32, load_abort (s := s.acquire) (acc := s.acquire.priv) h1]
        dsimp only
        rw [release_acquire hlock]
        exact .aborts (abortsAt_first h1)
      | false =>
        rw [load32_ok (s := s.acquire) (acc := s.acquire.priv) h1]
        dsimp only
        cases h2 : s.aborts .write ((s.rF f.rn).setWidth 64) n s.priv with
        | true =>
          rw [State.store32, store_abort (s := s.acquire) (acc := s.acquire.priv) h2]
          dsimp only
          rw [release_acquire hlock]
          exact .aborts (abortsAt_afterLoad h1 (abortsAt_first h2))
        | false =>
          rw [store32_ok (s := s.acquire) (acc := s.acquire.priv) h2]
          have hw := (Writes.refl (m := .f32) (l := l) (s := s)).setMem
            (mem := Memory.store s.mem s.cfg.endian 32 (s.rF f.rn).toNat n (s.rF f.rm).toNat)
            fun hm => Memory.wf_store hm _ (by decide) _ _ _
          dsimp only
          rw [show State.release { s.acquire with mem := _ } = { s with mem := _ } by
            rw [State.release, State.acquire, ← hlock]]
          exact .done (by simpa using ⟨h1, h2⟩) (hw.setR (by nofun) f.rd _) .next4

end Sys2Proof.Machine
end

section
/-! PROOFS. The effect of the multiple transfers, by recursion on the words, and of the single transfers of the vector unit,
C16 and W64. -/

namespace Sys2Proof.Machine

variable {m : Mode} {j : Jump} {l : Licence} {qs : List Request} {s u : State}

/-! ### Words at rising addresses -/

/-- The reads of the words of `n` registers from `a`. -/
def wordReads (acc : Priv) (a : Word) : Nat → List Request
  | 0 => []
  | n + 1 => .read32 acc a 4 :: wordReads acc (a + 4) n

/-- The writes of some words from `a`. -/
def wordWrites (acc : Priv) (a : Word) : List Word → List Request
  | [] => []
  | v :: vs => .write32 acc a 4 v :: wordWrites acc (a + 4) vs

theorem length_wordReads (acc : Priv) (a : Word) (n : Nat) : (wordReads acc a n).length = n := by
  induction n generalizing a with
  | zero => rfl
  | succ n ih => simp [wordReads, ih]

theorem length_wordWrites (acc : Priv) (a : Word) (vs : List Word) : (wordWrites acc a vs).length = vs.length := by
  induction vs generalizing a with
  | nil => rfl
  | cons v vs ih => simp [wordWrites, ih]

theorem getElem_wordReads (acc : Priv) (a : Word) (n k : Nat) (hk : k < (wordReads acc a n).length) :
    (wordReads acc a n)[k] = .read32 acc (a + BitVec.ofNat 32 (4 * k)) 4 := by
  induction n generalizing a k with
  | zero => simp [wordReads] at hk
  | succ n ih =>
    cases k with
    | zero => simp [wordReads]
    | succ k =>
      have h := ih (a + 4) k (by simpa [wordReads] using hk)
      rw [word_succ] at h
      simpa [wordReads] using h

theorem getElem_wordWrites (acc : Priv) (a : Word) (vs : List Word) (k : Nat) (hk : k < (wordWrites acc a vs).length)
    (hv : k < vs.length) : (wordWrites acc a vs)[k] = .write32 acc (a + BitVec.ofNat 32 (4 * k)) 4 vs[k] := by
  induction vs generalizing a k with
  | nil => simp at hv
  | cons v vs ih =>
    cases k with
    | zero => simp [wordWrites]
    | succ k =>
      have h := ih (a + 4) k (by simpa [wordWrites] using hk) (by simpa using hv)
      rw [word_succ] at h
      simpa [wordWrites] using h

/-- The requests of a multiple load, in the order of `loadWords`. -/
theorem readsFrom_eq (s : State) (list : BitVec 16) (start : Word) :
    s.readsFrom list start = wordReads s.priv start (listed list).length := by
  refine List.ext_getElem (by simp [State.readsFrom, length_wordReads]) fun k h1 h2 => ?_
  rw [length_wordReads] at h2
  rw [getElem_wordReads]
  simp [State.readsFrom, slotAddr, rankIn_getElem list h2]

/-- The requests of a multiple store, in the order of `storeWords`. -/
theorem writesFrom_eq (s : State) (list : BitVec 16) (start : Word) (v : Fin 16 → Word) :
    s.writesFrom list start v = wordWrites s.priv start ((listed list).map v) := by
  refine List.ext_getElem (by simp [State.writesFrom, length_wordWrites]) fun k h1 h2 => ?_
  rw [length_wordWrites, List.length_map] at h2
  rw [getElem_wordWrites _ _ _ _ _ (by simpa using h2)]
  simp [State.writesFrom, slotAddr, rankIn_getElem list h2]

/-- A multiple load reads a word for each register, or ends at the first refused request. -/
theorem loadWords_cases (s : State) (rs : List (Fin 16)) (a : Word) :
    (∃ vs, s.loadWords a rs = .ok vs ∧ vs.map Prod.fst = rs ∧
      ∀ q ∈ wordReads s.priv a rs.length, s.refuses q = false) ∨
    (∃ e, s.loadWords a rs = .error e ∧ ∀ bits, AbortsAt bits (wordReads s.priv a rs.length) s (s.dataAbort e)) := by
  induction rs generalizing a with
  | nil => exact .inl ⟨[], rfl, rfl, nofun⟩
  | cons i rs ih =>
    rw [State.loadWords]
    cases h : s.aborts .read (a.setWidth 64) 4 s.priv with
    | true =>
      rw [State.load32, load_abort h]
      exact .inr ⟨_, rfl, fun _ => abortsAt_first (q := .read32 s.priv a 4) h⟩
    | false =>
      rw [load32_ok h]
      rcases ih (a + 4) with ⟨vs, hvs, hfst, hok⟩ | ⟨e, he, habort⟩
      · rw [hvs]
        exact .inl ⟨_, rfl, by simp [hfst], List.forall_mem_cons.2 ⟨h, hok⟩⟩
      · rw [he]
        exact .inr ⟨e, rfl, fun bits => abortsAt_afterLoad h (habort bits)⟩

/-- A multiple store writes all words, or ends at the first refused request. -/
theorem storeWords_cases (s : State) (vs : List Word) (a : Word) :
    (∃ mem, s.storeWords a vs = ({ s with mem := mem }, none) ∧ (Memory.wf s.mem = true → Memory.wf mem = true) ∧
      ∀ q ∈ wordWrites s.priv a vs, s.refuses q = false) ∨
    (∃ t e, s.storeWords a vs = (t, some e) ∧ AbortsAt 32 (wordWrites s.priv a vs) s (t.dataAbort e)) := by
  induction vs generalizing a s with
  | nil => exact .inl ⟨s.mem, rfl, id, nofun⟩
  | cons v vs ih =>
    rw [State.storeWords]
    cases h : s.aborts .write (a.setWidth 64) 4 s.priv with
    | true =>
      rw [State.store32, store_abort h]
      exact .inr ⟨s, _, rfl, abortsAt_first (q := .write32 s.priv a 4 v) h⟩
    | false =>
      rw [store32_ok h]
      have hwf (hm : Memory.wf s.mem = true) := Memory.wf_store hm s.cfg.endian (show 32 ≤ 64 by decide) a.toNat 4 v.toNat
      rcases ih { s with mem := Memory.store s.mem s.cfg.endian 32 a.toNat 4 v.toNat } (a + 4) with
        ⟨mem, hmem, hw, hok⟩ | ⟨t, e, he, habort⟩
      · exact .inl ⟨mem, hmem, fun hm => hw (hwf hm), List.forall_mem_cons.2 ⟨h, hok⟩⟩
      · refine .inr ⟨t, e, he, abortsAt_afterStore (by decide) ?_ (by decide) h ?_ habort⟩
        · rw [toNat_wide]
          exact a.isLt
        · rw [toNat_wide]

/-- A register was loaded for `pc` only if register 15 is listed. -/
theorem mem_of_loadedPc {vs : List (Fin 16 × Word)} {w : Word} (h : loadedPc vs = some w) : 15 ∈ vs.map Prod.fst := by
  obtain ⟨p, hp, -⟩ := Option.map_eq_some_iff.1 h
  have hfst : p.1 = 15 := by simpa using List.find?_some hp
  exact hfst ▸ List.mem_map_of_mem (List.mem_of_find?_eq_some hp)

theorem getLsbD_of_loadedPc {list : BitVec 16} {vs : List (Fin 16 × Word)} {w : Word} (h : loadedPc vs = some w)
    (hvs : vs.map Prod.fst = listed list) : list[15] = true := by
  simpa using (mem_listed list 15).1 (hvs ▸ mem_of_loadedPc h)

/-! ### F32 multiples -/

theorem multiLegal_eq (f : F32.LSM) (isLoad : Bool) : s.multiLegal f isLoad = !multipleUndefined f isLoad s := by
  have hpriv : (s.priv == .privileged) = !(s.priv == .user) := by cases s.priv <;> rfl
  unfold State.multiLegal multipleUndefined
  rw [hpriv, bne, bne]
  generalize (f.rn == 15) = a, (f.reglist == 0) = b, (s.priv == .user) = c, f.s = d, f.w = e, f.reglist[15] = g
  revert a b c d e g isLoad
  decide

theorem answers_ldm {f : F32.LSM} (hl : f.reglist[15] = true → l.exchanges) :
    Answers .f32 (.ofPc f.reglist[15]) l (s.f32Requests f.cond (s.multiLegal f true)
      (s.readsFrom f.reglist (multiStart (s.rF f.rn) (listSize f.reglist) f.p f.u))) s (execF32LdmLsm f s) := by
  refine answers_f32Run f32Requests_of_fail fun hc => ?_
  rw [multiLegal_eq]
  cases hu : multipleUndefined f true s with
  | true => exact .undef (f32Requests_of_illegal rfl)
  | false =>
    rw [Bool.not_false, f32Requests_of_pass hc rfl, readsFrom_eq]
    simp only [Bool.false_eq_true, if_false, multipleAddr, resolveMultiple_eq, show regList f.reglist = listed f.reglist
      from rfl, length_listed]
    rw [← length_listed]
    rcases loadWords_cases s (listed f.reglist)
      (multiStart (s.rF f.rn) (listed f.reglist).length f.p f.u) with ⟨vs, hvs, hfst, hok⟩ | ⟨e, he, habort⟩
    · rw [hvs]
      have hw := ((Writes.refl (m := .f32) (l := l) (s := s)).writeBack32 (by nofun) f.rn
        (if f.w then some (multiBase (s.rF f.rn) (listed f.reglist).length f.u) else none)).writeLoaded (by nofun) vs
      refine .done hok hw ?_
      dsimp only [State.finishLoads]
      cases hpc : loadedPc vs with
      | some w =>
        have h15 := getLsbD_of_loadedPc hpc hfst
        exact .exchangeF (ofPc_ne_none h15) (hl h15) w
      | none => exact .next4
    · rw [he]
      exact .aborts (habort _)

theorem answers_stm (f : F32.LSM) :
    Answers .f32 j l (s.f32Requests f.cond (s.multiLegal f false)
      (s.writesFrom f.reglist (multiStart (s.rF f.rn) (listSize f.reglist) f.p f.u) s.storedF)) s
      (execF32StmLsm f s) := by
  refine answers_f32Run f32Requests_of_fail fun hc => ?_
  rw [multiLegal_eq]
  cases hu : multipleUndefined f false s with
  | true => exact .undef (f32Requests_of_illegal rfl)
  | false =>
    rw [Bool.not_false, f32Requests_of_pass hc rfl, writesFrom_eq, show s.storedF = s.storeValue from funext fun i =>
      (s.storeValue_eq i).symm]
    simp only [Bool.false_eq_true, if_false, multipleAddr, resolveMultiple_eq, show regList f.reglist = listed f.reglist
      from rfl, length_listed]
    rcases storeWords_cases s ((listed f.reglist).map s.storeValue)
      (multiStart (s.rF f.rn) (listSize f.reglist) f.p f.u) with ⟨mem, hmem, hwf, hok⟩ | ⟨t, e, he, habort⟩
    · rw [hmem]
      exact .done hok ((Writes.refl.setMem hwf).writeBack32 (by nofun) _ _) .next4
    · rw [he]
      exact .aborts habort

/-! ### Vector transfers -/

theorem vls_legal_iff {f : F32.VLS} : (s.vstat.en && !(f.w && f.rn == 15)) = !vlsUndefined f s := by
  unfold vlsUndefined
  cases s.vstat.en <;> simp

theorem answers_vldr (f : F32.VLS) :
    Answers .f32 j l (s.f32Requests f.cond (s.vstat.en && !(f.w && f.rn == 15))
      [.read32 s.priv (vlsAddr f s).address 8]) s (execF32VldrVls f s) := by
  refine answers_f32Run f32Requests_of_fail fun hc => ?_
  rw [vls_legal_iff]
  cases hu : vlsUndefined f s with
  | true => exact .undef (f32Requests_of_illegal rfl)
  | false =>
    rw [Bool.not_false, f32Requests_of_pass hc rfl, if_neg (by decide)]
    dsimp only
    cases h : s.aborts .read ((vlsAddr f s).address.setWidth 64) 8 s.priv with
    | true =>
      rw [State.load32, load_abort h]
      exact .aborts (abortsAt_first h)
    | false =>
      rw [load32_ok h]
      exact .done (List.forall_mem_singleton.2 h) ((Writes.refl.setV _ _).writeBack32 (by nofun) _ _) .next4

theorem answers_vstr (f : F32.VLS) :
    Answers .f32 j l (s.f32Requests f.cond (s.vstat.en && !(f.w && f.rn == 15))
      [⟨s.priv, (vlsAddr f s).address.setWidth 64, 8, some (s.getV f.vd).toNat⟩]) s (execF32VstrVls f s) := by
  refine answers_f32Run f32Requests_of_fail fun hc => ?_
  rw [vls_legal_iff]
  cases hu : vlsUndefined f s with
  | true => exact .undef (f32Requests_of_illegal rfl)
  | false =>
    rw [Bool.not_false, f32Requests_of_pass hc rfl, if_neg (by decide)]
    dsimp only
    cases h : s.aborts .write ((vlsAddr f s).address.setWidth 64) 8 s.priv with
    | true =>
      rw [State.store32, store_abort h]
      exact .aborts (abortsAt_first h)
    | false =>
      rw [store32_ok h]
      exact .done (List.forall_mem_singleton.2 h)
        ((Writes.refl.setMem fun hm => Memory.wf_store hm _ (by decide) _ _ _).writeBack32 (by nofun) _ _) .next4

/-! ### C16 -/

theorem c16Requests_of_not {legal : Bool} (h : ¬ (s.slotRuns ∧ legal = true)) : s.c16Requests legal qs = [] := by
  rw [State.c16Requests, if_neg]
  simpa [State.slotRuns] using h

theorem c16Requests_of_runs {legal : Bool} (hr : s.slotRuns) (h : legal = true) : s.c16Requests legal qs = qs := by
  rw [State.c16Requests, if_pos]
  rw [show s.slotPassed = true from hr, h]
  rfl

theorem answers_c16Load {rd : Fin 8} {addr : State → Word} {n : Nat} {ext : Nat → Word} :
    Answers .c16 j l (s.c16Requests true [.read32 s.priv (addr s) n]) s (c16Load rd addr n ext s) := by
  refine answers_c16Run c16Requests_of_not fun hr _ => ?_
  rw [c16Requests_of_runs hr rfl]
  cases h : s.aborts .read ((addr s).setWidth 64) n s.priv with
  | true =>
    rw [State.load32, load_abort h]
    exact .aborts (abortsAt_first h)
  | false =>
    rw [load32_ok h]
    exact .done (List.forall_mem_singleton.2 h) (Writes.refl.setR (by nofun) _ _) .finish2

theorem answers_c16Store {rd : Fin 8} {addr : State → Word} {n : Nat} :
    Answers .c16 j l (s.c16Requests true [.write32 s.priv (addr s) n (s.lo rd)]) s (c16Store rd addr n s) := by
  refine answers_c16Run c16Requests_of_not fun hr _ => ?_
  rw [c16Requests_of_runs hr rfl, ← State.rC_low]
  cases h : s.aborts .write ((addr s).setWidth 64) n s.priv with
  | true =>
    rw [State.store32, store_abort h]
    exact .aborts (abortsAt_first h)
  | false =>
    rw [store32_ok h]
    exact .done (List.forall_mem_singleton.2 h) (Writes.refl.setMem fun hm => Memory.wf_store hm _ (by decide) _ _ _) .finish2

theorem answers_c16StoreMultiple {list : BitVec 16} {rn : Fin 16} {p u legal : Bool} (hlegal : legal = (list != 0)) :
    Answers .c16 j l (s.c16Requests legal (s.writesFrom list (multiStart (s.rC rn) (listSize list) p u) s.rC)) s
      (c16StoreMultiple list rn p u s) := by
  subst hlegal
  refine answers_c16Run c16Requests_of_not fun hr h0 => ?_
  rw [c16Requests_of_runs hr h0, writesFrom_eq]
  simp only [resolveMultiple_eq, show regList list = listed list from rfl, length_listed]
  rcases storeWords_cases s ((listed list).map s.rC) (multiStart (s.rC rn) (listSize list) p u) with
    ⟨mem, hmem, hwf, hok⟩ | ⟨t, e, he, habort⟩
  · rw [hmem]
    exact .done hok ((Writes.refl.setMem hwf).setR (by nofun) _ _) .finish2
  · rw [he]
    exact .aborts habort

theorem writeLoaded_mayBranch (u : State) (vs : List (Fin 16 × Word)) : (u.writeLoaded vs).mayBranch = u.mayBranch := by
  induction vs generalizing u with
  | nil => rfl
  | cons p vs ih => exact (ih _).trans (setR_mayBranch ..)

theorem answers_c16LoadMultiple {list : BitVec 16} {rn : Fin 16} {legal : Bool}
    (hlegal : legal = (list != 0 && (!list[15] || s.mayBranch))) (hl : list[15] = true → j ≠ .none ∧ l.exchanges) :
    Answers .c16 j l (s.c16Requests legal (s.readsFrom list (s.rC rn))) s (c16LoadMultiple list rn s) := by
  subst hlegal
  refine answers_c16Run c16Requests_of_not fun hr h0 => ?_
  rw [c16Requests_of_runs hr h0, readsFrom_eq]
  have hstart : multiStart (s.rC rn) (listed list).length false true = s.rC rn := by simp [multiStart]
  simp only [resolveMultiple_eq, show regList list = listed list from rfl, hstart]
  rcases loadWords_cases s (listed list) (s.rC rn) with ⟨vs, hvs, hfst, hok⟩ | ⟨e, he, habort⟩
  · rw [hvs]
    refine .done hok ((Writes.refl.setR (by nofun) rn (multiBase (s.rC rn) (listed list).length true)).writeLoaded
      (by nofun) vs) ?_
    dsimp only
    split
    · next w hpc =>
      have h15 := getLsbD_of_loadedPc hpc hfst
      obtain ⟨hj, hex⟩ := hl h15
      refine .exchangeC hj hex ?_ w
      rw [writeLoaded_mayBranch, setR_mayBranch]
      simpa [h15] using (Bool.and_eq_true_iff.1 h0).2
    · exact .finish2
  · rw [he]
    exact .aborts (habort _)

theorem popList_15 (f : C16.PP) : (popList f)[15] = f.r := by
  unfold popList
  cases f.r <;> simp

theorem setWidth_bne_zero (x : BitVec 8) : (x != 0) = (x.setWidth 16 != 0) := by
  revert x
  decide

theorem answers_push (f : C16.PP) :
    Answers .c16 j l (s.c16Requests (pushList f != 0)
      (s.writesFrom (pushList f) (multiStart (s.rC 13) (listSize (pushList f)) true false) s.rC)) s
      (execC16PushPp f s) :=
  answers_c16StoreMultiple rfl

theorem answers_pop {f : C16.PP} (hl : f.r = true → l.exchanges) :
    Answers .c16 (.ofPc f.r) l (s.c16Requests (popList f != 0 && (!f.r || s.mayBranch))
      (s.readsFrom (popList f) (s.rC 13))) s (execC16PopPp f s) := by
  refine answers_c16LoadMultiple (by rw [popList_15]) fun h => ?_
  rw [popList_15] at h
  exact ⟨ofPc_ne_none h, hl h⟩

theorem answers_stmia (f : C16.LSM) :
    Answers .c16 j l (s.c16Requests (f.reglist != 0) (s.writesFrom (f.reglist.setWidth 16) (s.rC (low f.rn)) s.rC)) s
      (execC16StmiaLsm f s) := by
  rw [show s.rC (low f.rn) = multiStart (s.rC (low f.rn)) (listSize (f.reglist.setWidth 16)) false true by
    simp [multiStart]]
  exact answers_c16StoreMultiple (setWidth_bne_zero _)

/-- A list of eight low registers never holds register 15. -/
theorem answers_ldmia (f : C16.LSM) :
    Answers .c16 j l (s.c16Requests (f.reglist != 0) (s.readsFrom (f.reglist.setWidth 16) (s.rC (low f.rn)))) s
      (execC16LdmiaLsm f s) := by
  have h15 : (f.reglist.setWidth 16)[15] = false := by simp
  refine answers_c16LoadMultiple (by simp only [setWidth_bne_zero, h15, Bool.not_false, Bool.true_or, Bool.and_true])
    fun h => ?_
  rw [h15] at h
  cases h

/-! ### W64 -/

theorem answers_w64Load {k : Nat} {ext : Nat → DWord} {f : W64.LS} :
    Answers .w64 j l [⟨s.priv, (w64Addr k f s).address, 2 ^ k, none⟩] s (w64Load k ext f s) := by
  unfold w64Load
  refine answers_next ?_
  cases h : s.aborts .read (w64Addr k f s).address (2 ^ k) s.priv with
  | true =>
    rw [load_abort h]
    exact .aborts (abortsAt_first h)
  | false =>
    rw [load_ok h]
    exact .done (List.forall_mem_singleton.2 h) ((Writes.refl.writeBackX _ _).setX _ _) .nextW

theorem answers_w64Store {k : Nat} {f : W64.LS} :
    Answers .w64 j l [⟨s.priv, (w64Addr k f s).address, 2 ^ k, some (s.getX f.rt).toNat⟩] s (w64Store k f s) := by
  unfold w64Store
  refine answers_next ?_
  cases h : s.aborts .write (w64Addr k f s).address (2 ^ k) s.priv with
  | true =>
    rw [store_abort h]
    exact .aborts (abortsAt_first h)
  | false =>
    rw [store_ok h]
    exact .done (List.forall_mem_singleton.2 h)
      ((Writes.refl.setMem fun hm => Memory.wf_store hm _ (by decide) _ _ _).writeBackX _ _) .nextW

/-- The address of a literal load in integer arithmetic. -/
theorem literal_addr (s : State) (imm19 : BitVec 19) :
    s.pc + (imm19.signExtend 64 <<< 2) = BitVec.ofInt 64 (s.pc.toNat + 4 * imm19.toInt) := by
  rw [signExtend_shiftLeft, add_ofInt]
  congr 2
  omega

theorem answers_w64Literal {n : Nat} {ext : Nat → DWord} {f : W64.LIT} :
    Answers .w64 j l [⟨s.priv, BitVec.ofInt 64 (s.pc.toNat + 4 * f.imm19.toInt), n, none⟩] s
      (w64Literal n ext f s) := by
  unfold w64Literal
  rw [literal_addr]
  refine answers_next ?_
  cases h : s.aborts .read (BitVec.ofInt 64 (s.pc.toNat + 4 * f.imm19.toInt)) n s.priv with
  | true =>
    rw [load_abort h]
    exact .aborts (abortsAt_first h)
  | false =>
    rw [load_ok h]
    exact .done (List.forall_mem_singleton.2 h) (Writes.refl.setX _ _) .nextW

theorem answers_ldp (f : W64.LSP) : Answers .w64 j l (s.pairRequests f none none) s (execW64LdpLsp f s) := by
  unfold execW64LdpLsp State.pairRequests
  rw [show pairBytes f = if f.sf then 8 else 4 from rfl]
  dsimp only
  generalize (if f.sf then 8 else 4) = n
  refine answers_next ?_
  cases h1 : s.aborts .read (pairAddr f s).address n s.priv with
  | true =>
    rw [load_abort h1]
    exact .aborts (abortsAt_first h1)
  | false =>
    rw [load_ok h1]
    dsimp only
    cases h2 : s.aborts .read ((pairAddr f s).address + BitVec.ofNat 64 n) n s.priv with
    | true =>
      rw [load_abort h2]
      exact .aborts (abortsAt_afterLoad h1 (abortsAt_first h2))
    | false =>
      rw [load_ok h2]
      exact .done (by simpa using ⟨h1, h2⟩) (((Writes.refl.writeBackX _ _).setX _ _).setX _ _) .nextW

theorem answers_stp (f : W64.LSP) :
    Answers .w64 j l (s.pairRequests f (some (s.getX f.rt).toNat) (some (s.getX f.rt2).toNat)) s
      (execW64StpLsp f s) := by
  unfold execW64StpLsp State.pairRequests
  rw [show pairBytes f = if f.sf then 8 else 4 from rfl]
  dsimp only
  have hn : (if f.sf then 8 else 4) ≤ 2 ^ 64 := by cases f.sf <;> decide
  generalize (if f.sf then 8 else 4) = n at hn
  refine answers_next ?_
  cases h1 : s.aborts .write (pairAddr f s).address n s.priv with
  | true =>
    rw [store_abort h1]
    exact .aborts (abortsAt_first h1)
  | false =>
    rw [store_ok h1]
    dsimp only
    cases h2 : s.aborts .write ((pairAddr f s).address + BitVec.ofNat 64 n) n s.priv with
    | true =>
      rw [store_setMem_abort h2]
      exact .aborts (abortsAt_afterStore (by decide) (BitVec.isLt _) hn h1 rfl (abortsAt_first h2))
    | false =>
      rw [store_setMem_ok h2]
      have hw := (Writes.refl (m := .w64) (l := l) (s := s)).setMem
        (mem := Memory.store s.mem s.cfg.endian 64 (pairAddr f s).address.toNat n (s.getX f.rt).toNat)
        fun hm => Memory.wf_store hm _ (by decide) _ _ _
      exact .done (by simpa using ⟨h1, h2⟩)
        ((hw.setMem fun hm => Memory.wf_store hm _ (by decide) _ _ _).writeBackX _ _) .nextW

end Sys2Proof.Machine
end

section
/-! PROOFS. Every instruction answers by its operation: the one walk through the opcode table. -/

namespace Sys2Proof.Machine

/-- The licences of the few instructions that have one. -/
def licenceOf (s : State) : Instr → Licence
  | .f32SwpSwp f => { waits := waitsForLock (.f32SwpSwp f) s = true }
  | .f32SwpbSwp f => { waits := waitsForLock (.f32SwpbSwp f) s = true }
  | .f32MsrMisc f => { clearsQ := f.fmask[3] = true }
  | .f32MsrMsri f => { clearsQ := f.fmask[3] = true }
  | .f32VmsrVctl f =>
    { clearsSat := f.vcn = 2 ∧ s.vstat.en = true
      clearsIoc := f.vcn = 1 ∧ s.vstat.en = true
      samples := s.passes f.cond }
  | .f32SyswSys _ => { sysRegs := s.priv = .privileged }
  | .f32BxMisc _ => { exchanges := True }
  | .f32BlxMisc _ => { exchanges := True }
  | .f32BlxBlxi _ => { exchanges := True }
  | .f32LdrLsi f => { exchanges := f.rd = 15 }
  | .f32LdrLsr f => { exchanges := f.rd = 15 }
  | .f32LdmLsm f => { exchanges := f.reglist[15] = true }
  | .c16BxBx _ => { exchanges := True }
  | .c16BlxBx _ => { exchanges := True }
  | .c16BlxBl2 _ => { exchanges := True }
  | .c16PopPp f => { exchanges := f.r = true }
  | .c16ItIt f => { masked := f.mask ≠ 0 }
  | _ => {}

theorem exec_answers (i : Instr) (s : State) :
    Answers i.mode (shapeOf s i).jump (licenceOf s i) (requests i s) s (exec i s) := by
  cases i with
  | f32And f | f32Eor f | f32Sub f | f32Rsb f | f32Add f | f32Adc f | f32Sbc f | f32Rsc f | f32Orr f | f32Mov f
  | f32Bic f | f32Mvn f =>
    dsimp only [exec]
    exact answers_dataProcessing _ f
  | f32Tst f | f32Teq f | f32Cmp f | f32Cmn f =>
    dsimp only [exec]
    exact answers_dataCompare _ f
  | f32MulMul f =>
    dsimp only [exec]
    exact answers_mul f
  | f32MlaMul f =>
    dsimp only [exec]
    exact answers_mla f
  | f32UmullMull f | f32UmlalMull f | f32SmullMull f | f32SmlalMull f =>
    dsimp only [exec]
    exact answers_multiplyLong _ f
  | f32SwpSwp f | f32SwpbSwp f =>
    dsimp only [exec]
    exact answers_swap (s := s) id
  | f32MrsMisc f =>
    dsimp only [exec]
    exact answers_mrs f
  | f32MsrMisc f =>
    dsimp only [exec]
    exact answers_msr id
  | f32MsrMsri f =>
    dsimp only [exec]
    exact answers_msri id
  | f32BxMisc f =>
    dsimp only [exec]
    exact answers_bx trivial
  | f32BlxMisc f =>
    dsimp only [exec]
    exact answers_blx trivial
  | f32QaddSat f | f32QsubSat f | f32QdaddSat f | f32QdsubSat f =>
    dsimp only [exec]
    exact answers_saturating _ f
  | f32StrhLshi f | f32StrhLshr f | f32StrLsi f | f32StrLsr f | f32StrtLsi f | f32StrtLsr f | f32StrbLsi f
  | f32StrbLsr f | f32StrbtLsi f | f32StrbtLsr f =>
    dsimp only [exec]
    exact answers_storeSingle (s := s)
  | f32LdrdLshi f | f32LdrdLshr f =>
    dsimp only [exec]
    exact answers_loadDouble (s := s)
  | f32StrdLshi f | f32StrdLshr f =>
    dsimp only [exec]
    exact answers_storeDouble (s := s)
  | f32LdrhLshi f | f32LdrhLshr f | f32LdrsbLshi f | f32LdrsbLshr f | f32LdrshLshi f | f32LdrshLshr f
  | f32LdrtLsi f | f32LdrtLsr f | f32LdrbLsi f | f32LdrbLsr f | f32LdrbtLsi f | f32LdrbtLsr f =>
    dsimp only [exec]
    exact answers_loadSingle (s := s) nofun
  | f32LdrLsi f | f32LdrLsr f =>
    dsimp only [exec]
    exact answers_loadPc (s := s) id
  | f32StmLsm f =>
    dsimp only [exec]
    exact answers_stm f
  | f32LdmLsm f =>
    dsimp only [exec]
    exact answers_ldm id
  | f32BBr f =>
    dsimp only [exec]
    exact answers_b f
  | f32BlBr f =>
    dsimp only [exec]
    exact answers_bl f
  | f32BlxBlxi f =>
    dsimp only [exec]
    exact answers_blxi trivial
  | f32VaddVop f | f32VsubVop f | f32VshrVop f | f32VrshrVop f | f32VmulhVop f | f32VrmulhVop f =>
    dsimp only [exec]
    exact answers_laneMap _ _ f
  | f32VqaddVop f | f32VqsubVop f =>
    dsimp only [exec]
    exact answers_laneSatMap _ f
  | f32VmullbVop f | f32VmulltVop f =>
    dsimp only [exec]
    exact answers_laneWiden _ f
  | f32VdotVop f | f32VdotaVop f =>
    dsimp only [exec]
    exact answers_laneDot _ f
  | f32VpackVop f =>
    dsimp only [exec]
    exact answers_vpack f
  | f32VqpackVop f =>
    dsimp only [exec]
    exact answers_vqpack f
  | f32VunpkbVop f | f32VunpktVop f | f32VzipbVop f | f32VziptVop f | f32VandVop f | f32VorrVop f
  | f32VeorVop f =>
    dsimp only [exec]
    exact answers_laneCell _ _ f
  | f32VceqVop f | f32VcgtVop f | f32VcgeVop f =>
    dsimp only [exec]
    exact answers_laneCompare _ _ f
  | f32VfceqVop f | f32VfcgeVop f | f32VfcgtVop f | f32VfacgeVop f | f32VfacgtVop f =>
    dsimp only [exec]
    exact answers_laneFloat _ _ f
  | f32VfcmpVop f | f32VfcmpeVop f =>
    dsimp only [exec]
    exact answers_laneFloatFlags _ f
  | f32VmovtvVxfer f =>
    dsimp only [exec]
    exact answers_vmovtv f
  | f32VmovfvVxfer f =>
    dsimp only [exec]
    exact answers_vmovfv f
  | f32VmsrVctl f =>
    dsimp only [exec]
    exact answers_vmsr id id id
  | f32VmrsVctl f =>
    dsimp only [exec]
    exact answers_vmrs f
  | f32VstrVls f =>
    dsimp only [exec]
    exact answers_vstr f
  | f32VldrVls f =>
    dsimp only [exec]
    exact answers_vldr f
  | f32SyswSys f =>
    dsimp only [exec]
    exact answers_sysw id
  | f32SysrSys f =>
    dsimp only [exec]
    exact answers_sysr f
  | c16LslsShi f | c16LsrsShi f | c16AsrsShi f | c16LslsAlu f | c16LsrsAlu f | c16AsrsAlu f | c16RorsAlu f =>
    dsimp only [exec]
    exact answers_c16Shift _ _
  | c16AddsAs3 f | c16SubsAs3 f | c16AddsAs3i f | c16SubsAs3i f | c16AddsI8 f | c16SubsI8 f | c16AdcsAlu f
  | c16SbcsAlu f | c16NegsAlu f =>
    dsimp only [exec]
    exact answers_c16Arith _ _
  | c16MovsI8 f | c16AndsAlu f | c16EorsAlu f | c16OrrsAlu f | c16MulsAlu f | c16BicsAlu f | c16MvnsAlu f =>
    dsimp only [exec]
    exact answers_c16Logical _ _
  | c16CmpI8 f | c16CmpAlu f | c16CmnAlu f | c16CmpHi f =>
    dsimp only [exec]
    exact answers_c16Compare _ _
  | c16TstAlu f =>
    dsimp only [exec]
    exact answers_c16Tst f
  | c16AddHi f | c16MovHi f =>
    dsimp only [exec]
    exact answers_c16High _ _
  | c16BxBx f =>
    dsimp only [exec]
    exact answers_c16Bx trivial
  | c16BlxBx f =>
    dsimp only [exec]
    exact answers_c16Blx trivial
  | c16LdrLit f | c16LdrsbLsr f | c16LdrLsr f | c16LdrhLsr f | c16LdrbLsr f | c16LdrshLsr f | c16LdrLsi f
  | c16LdrbLsi f | c16LdrhLsi f | c16LdrSpr f =>
    dsimp only [exec]
    exact answers_c16Load (s := s)
  | c16StrLsr f | c16StrhLsr f | c16StrbLsr f | c16StrLsi f | c16StrbLsi f | c16StrhLsi f | c16StrSpr f =>
    dsimp only [exec]
    exact answers_c16Store (s := s)
  | c16AdrAdr f | c16AddAdr f | c16AddSpa f | c16SubSpa f =>
    dsimp only [exec]
    exact answers_c16Move _ _
  | c16PushPp f =>
    dsimp only [exec]
    exact answers_push f
  | c16PopPp f =>
    dsimp only [exec]
    exact answers_pop id
  | c16NopHint =>
    dsimp only [exec]
    exact answers_c16Nop
  | c16ItIt f =>
    dsimp only [exec]
    exact answers_it id
  | c16StmiaLsm f =>
    dsimp only [exec]
    exact answers_stmia f
  | c16LdmiaLsm f =>
    dsimp only [exec]
    exact answers_ldmia f
  | c16BBc f =>
    dsimp only [exec]
    exact answers_c16Bcond _ f
  | c16BB f =>
    dsimp only [exec]
    exact answers_c16B f
  | c16BlxBl2 f =>
    dsimp only [exec]
    exact answers_c16BlxBl2 trivial
  | c16BlBl1 f =>
    dsimp only [exec]
    exact answers_c16Bl1 f
  | c16BlBl2 f =>
    dsimp only [exec]
    exact answers_c16Bl2 f
  | w64AddAsi f | w64SubAsi f =>
    dsimp only [exec]
    exact answers_setXsp _ _
  | w64AddsAsi f | w64SubsAsi f | w64AddsAsr f | w64SubsAsr f =>
    dsimp only [exec]
    exact answers_w64WriteFlags _ (sumAt_q ..)
  | w64AddAsr f | w64SubAsr f | w64AndLogr f | w64BicLogr f | w64OrrLogr f | w64OrnLogr f | w64EorLogr f
  | w64EonLogr f | w64MovnMovw f | w64MovzMovw f | w64MovkMovw f | w64AdrAdr f | w64AdrpAdr f | w64CselCsel f
  | w64CsincCsel f | w64CsinvCsel f | w64CsnegCsel f | w64UdivDp2 f | w64SdivDp2 f | w64LslvDp2 f
  | w64LsrvDp2 f | w64AsrvDp2 f | w64RorvDp2 f | w64MaddDp3 f | w64MsubDp3 f | w64SmaddlDp3 f | w64SmsublDp3 f
  | w64SmulhDp3 f | w64UmaddlDp3 f | w64UmsublDp3 f | w64UmulhDp3 f | w64MrsSys f =>
    dsimp only [exec]
    exact answers_w64Write _ _
  | w64AndsLogr f | w64BicsLogr f =>
    dsimp only [exec]
    exact answers_w64WriteFlags _ (logicalAt_q ..)
  | w64BBi f | w64BcondBc f | w64CbzCb f | w64CbnzCb f | w64TbzTb f | w64TbnzTb f =>
    dsimp only [exec]
    exact answers_w64Relative .refl (by nofun) _ _
  | w64BlBi f =>
    dsimp only [exec]
    exact answers_w64Relative (Writes.refl.setX _ _) (by nofun) _ _
  | w64BrBreg f | w64RetBreg f =>
    dsimp only [exec]
    exact answers_branchW .refl _
  | w64BlrBreg f =>
    dsimp only [exec]
    exact answers_branchW (Writes.refl.setX _ _) _
  | w64Strb f | w64Strh f | w64Strw f | w64Strx f =>
    dsimp only [exec]
    exact answers_w64Store (s := s)
  | w64Ldrb f | w64Ldrsb f | w64Ldrsbw f | w64Ldrh f | w64Ldrsh f | w64Ldrshw f | w64Ldrw f | w64Ldrsw f
  | w64Ldrx f =>
    dsimp only [exec]
    exact answers_w64Load (s := s)
  | w64LdrwLit f | w64LdrxLit f | w64LdrswLit f =>
    dsimp only [exec]
    exact answers_w64Literal (s := s)
  | w64StpLsp f =>
    dsimp only [exec]
    exact answers_stp f
  | w64LdpLsp f =>
    dsimp only [exec]
    exact answers_ldp f
  | w64NopSys =>
    dsimp only [exec]
    exact answers_w64Nop
  | w64MsrSys f =>
    dsimp only [exec]
    exact answers_w64Msr f

end Sys2Proof.Machine
end

section
/-! PROOFS. The rules about every instruction, read from the effect: totality and precision of raises, refused requests,
failed conditions, the state writers, the mode changes, the sticky bits. -/

namespace Sys2Proof.Machine

variable {m : Mode} {j : Jump} {l : Licence} {qs : List Request} {s t u : State}

/-! ### What the moves and the effect keep -/

theorem Moves.keeps (h : Moves l u m j t) : t = { u with pc := t.pc, mode := t.mode, itstate := t.itstate } := by
  cases h with
  | exchangeF _ _ v | exchangeC _ _ _ v => cases hv : v[0] <;> simp [State.branchExchange, State.advanceIt, hv]
  | _ => rfl

/-- A field that is not moved has the value it was written with. -/
theorem Moves.keeps_field {α : Type} (h : Moves l u m j t) (g : State → α)
    (hg : ∀ pc mode it, g { u with pc := pc, mode := mode, itstate := it } = g u) : g t = g u := by
  rw [h.keeps, hg]

theorem Moves.itstate (h : Moves l u m j t) (hm : m ≠ .c16) : t.itstate = u.itstate := by
  cases h with
  | exchangeF _ _ v => simp
  | next4 | branchF | targetF | enterC | nextW | branchW | offsetW => rfl
  | _ => exact absurd rfl hm

/-- A change of mode needs its licence, and goes between the 32-bit modes. -/
theorem Moves.mode (h : Moves l u m j t) :
    t.mode = u.mode ∨ l.exchanges ∧ j ≠ .none ∧ m ≠ .w64 ∧ (t.mode = .f32 ∨ t.mode = .c16) := by
  cases h with
  | exchangeF hj hl v =>
    refine .inr ⟨hl, hj, by nofun, ?_⟩
    rw [State.branchExchange_mode]
    split
    · exact .inr rfl
    · exact .inl rfl
  | exchangeC hj hl _ v =>
    refine .inr ⟨hl, hj, by nofun, ?_⟩
    rw [State.advanceIt_mode, State.branchExchange_mode]
    split
    · exact .inr rfl
    · exact .inl rfl
  | enterC hj hl => exact .inr ⟨hl, hj, by nofun, .inr rfl⟩
  | leaveC hj hl => exact .inr ⟨hl, hj, by nofun, .inl rfl⟩
  | _ => exact .inl rfl

/-- Memory and the raise alone change, or the instruction completes. -/
theorem Effect.cases (h : Effect m j l qs s t) :
    t = { s with mem := t.mem, raised := t.raised } ∨ ∃ u, Writes m l s u ∧ Moves l u m j t := by
  cases h with
  | undef | waits => exact .inl rfl
  | aborts h =>
    obtain ⟨_, _, _, _, _, _, _, _, _, rfl⟩ := h
    exact .inl rfl
  | done _ hu ht => exact .inr ⟨_, hu, ht⟩

theorem exec_effect {i : Instr} (h : exec i s = .next t) :
    Effect i.mode (shapeOf s i).jump (licenceOf s i) (requests i s) s t := by
  obtain ⟨t', ht, he⟩ := exec_answers i s
  rw [h] at ht
  injection ht with ht
  exact ht ▸ he

/-! ### Who has a licence -/

theorem sysw_of_licence {i : Instr} (h : (licenceOf s i).sysRegs) :
    s.priv = .privileged ∧ ∃ f, i = .f32SyswSys f := by
  unfold licenceOf at h
  split at h
  case h_6 f => exact ⟨h, f, rfl⟩
  all_goals exact False.elim h

theorem msr_of_licence {i : Instr} (h : (licenceOf s i).clearsQ) :
    (∃ f, i = .f32MsrMisc f ∧ f.fmask[3] = true) ∨ (∃ f, i = .f32MsrMsri f ∧ f.fmask[3] = true) := by
  unfold licenceOf at h
  split at h
  case h_3 f => exact .inl ⟨f, rfl, h⟩
  case h_4 f => exact .inr ⟨f, rfl, h⟩
  all_goals exact False.elim h

theorem vmsrSat_of_licence {i : Instr} (h : (licenceOf s i).clearsSat) :
    ∃ f, i = .f32VmsrVctl f ∧ f.vcn = 2 ∧ s.vstat.en = true := by
  unfold licenceOf at h
  split at h
  case h_5 f => exact ⟨f, rfl, h⟩
  all_goals exact False.elim h

theorem vmsrIoc_of_licence {i : Instr} (h : (licenceOf s i).clearsIoc) :
    ∃ f, i = .f32VmsrVctl f ∧ f.vcn = 1 ∧ s.vstat.en = true := by
  unfold licenceOf at h
  split at h
  case h_5 f => exact ⟨f, rfl, h⟩
  all_goals exact False.elim h

theorem interworking_of_licence {i : Instr} (h : (licenceOf s i).exchanges) :
    (i.mode = .f32 ∧ ((∃ f, i = .f32BxMisc f) ∨ (∃ f, i = .f32BlxMisc f) ∨ (∃ f, i = .f32BlxBlxi f) ∨
      (∃ f, i = .f32LdrLsi f ∧ f.rd = 15) ∨ (∃ f, i = .f32LdrLsr f ∧ f.rd = 15) ∨
      (∃ f, i = .f32LdmLsm f ∧ f.reglist[15] = true))) ∨
    (i.mode = .c16 ∧ ((∃ f, i = .c16BxBx f) ∨ (∃ f, i = .c16BlxBx f) ∨ (∃ f, i = .c16BlxBl2 f) ∨
      (∃ f, i = .c16PopPp f ∧ f.r = true))) := by
  unfold licenceOf at h
  split at h
  case h_7 f => exact .inl ⟨rfl, .inl ⟨f, rfl⟩⟩
  case h_8 f => exact .inl ⟨rfl, .inr (.inl ⟨f, rfl⟩)⟩
  case h_9 f => exact .inl ⟨rfl, .inr (.inr (.inl ⟨f, rfl⟩))⟩
  case h_10 f => exact .inl ⟨rfl, .inr (.inr (.inr (.inl ⟨f, rfl, h⟩)))⟩
  case h_11 f => exact .inl ⟨rfl, .inr (.inr (.inr (.inr (.inl ⟨f, rfl, h⟩))))⟩
  case h_12 f => exact .inl ⟨rfl, .inr (.inr (.inr (.inr (.inr ⟨f, rfl, h⟩))))⟩
  case h_13 f => exact .inr ⟨rfl, .inl ⟨f, rfl⟩⟩
  case h_14 f => exact .inr ⟨rfl, .inr (.inl ⟨f, rfl⟩)⟩
  case h_15 f => exact .inr ⟨rfl, .inr (.inr (.inl ⟨f, rfl⟩))⟩
  case h_16 f => exact .inr ⟨rfl, .inr (.inr (.inr ⟨f, rfl, h⟩))⟩
  all_goals exact False.elim h

/-! ### The obligations -/

/-- Settles O12, from the four ways an instruction can answer. -/
theorem everyInstructionAnswersAndRaisesArePrecise :
    Obligations.EveryInstructionAnswersAndRaisesArePrecise := by
  refine ⟨fun i s => ?_, fun i s t r hs h hr => ?_⟩
  · obtain ⟨t, ht, -⟩ := exec_answers i s
    exact ⟨t, ht⟩
  · cases exec_effect h with
    | undef =>
      obtain rfl : _ = r := Option.some.inj hr
      exact ⟨rfl, rfl, .inl ⟨rfl, rfl, rfl⟩⟩
    | waits =>
      rw [hs] at hr
      cases hr
    | aborts h =>
      obtain ⟨before, q, after, mem, hqs, hb, hq, hread, hmem, rfl⟩ := h
      obtain rfl : _ = r := Option.some.inj hr
      exact ⟨rfl, rfl, .inr ⟨rfl, before, q, after, hqs, hb, hq, rfl, hread, fun hm => (hmem hm).2⟩⟩
    | done _ hu ht =>
      rw [ht.keeps] at hr
      rw [show _ = s.raised from hu.raised, hs] at hr
      cases hr

/-- The split of a list at its first refused request is unique. -/
theorem firstRefused_unique {α : Type} {p : α → Bool} {b a b' a' : List α} {q q' : α}
    (h : b ++ q :: a = b' ++ q' :: a') (hb : ∀ x ∈ b, p x = false) (hq : p q = true)
    (hb' : ∀ x ∈ b', p x = false) (hq' : p q' = true) : b = b' ∧ q = q' := by
  induction b generalizing b' with
  | nil =>
    cases b' with
    | nil =>
      obtain ⟨rfl, -⟩ := List.cons.inj h
      exact ⟨rfl, rfl⟩
    | cons x b' =>
      obtain ⟨rfl, -⟩ := List.cons.inj h
      rw [(List.forall_mem_cons.1 hb').1] at hq
      cases hq
  | cons x b ih =>
    cases b' with
    | nil =>
      obtain ⟨rfl, -⟩ := List.cons.inj h
      rw [(List.forall_mem_cons.1 hb).1] at hq'
      cases hq'
    | cons x' b' =>
      obtain ⟨rfl, hrest⟩ := List.cons.inj h
      obtain ⟨rfl, rfl⟩ := ih hrest (List.forall_mem_cons.1 hb).2 (List.forall_mem_cons.1 hb').2
      exact ⟨rfl, rfl⟩

/-- Settles O35: an instruction with a refused request cannot have answered in another way. -/
theorem refusedRequestsAbort : Obligations.RefusedRequestsAbort := by
  refine ⟨fun i s before q after hm hqs hb hq => ?_, fun s q hmis haddr => ?_⟩
  · obtain ⟨t, ht, he⟩ := exec_answers i s
    cases he with
    | undef h0 | waits h0 =>
      rw [hqs] at h0
      exact absurd h0 (by simp)
    | done hok =>
      rw [hok q (by rw [hqs]; simp)] at hq
      cases hq
    | aborts h =>
      obtain ⟨before', q', after', mem, hqs', hb', hq', -, hmem, rfl⟩ := h
      obtain ⟨rfl, rfl⟩ := firstRefused_unique (hqs.symm.trans hqs') hb hq hb' hq'
      exact ⟨mem, ht, (hmem hm).2⟩
  · have hkind : ((if q.written.isSome then AccessKind.write else .read) != .fetch) = true := by
      cases q.written.isSome <;> rfl
    have hsize : (q.addr.toNat % q.size != 0) = true := bne_iff_ne.2 haddr
    rw [State.refuses, State.aborts, hkind, hmis, hsize]
    rfl

/-- Settles O14: what completes writes as its encoding may, and the other answers write memory and the raise alone. -/
theorem stateWriters : Obligations.StateWriters := by
  intro i s t h
  rcases (exec_effect h).cases with ht | ⟨u, hu, ht⟩
  · rw [ht]
    exact ⟨⟨rfl, rfl, rfl, rfl, rfl, rfl⟩, fun _ => ⟨rfl, rfl, rfl, rfl, rfl, rfl, rfl⟩, fun _ => ⟨rfl, rfl⟩,
      fun _ => ⟨rfl, rfl, rfl⟩, fun _ => rfl, fun hne => absurd rfl hne⟩
  · have hpriv : t.priv = s.priv := (ht.keeps_field State.priv fun _ _ _ => rfl).trans hu.priv
    have hsys : t.sysRegs = u.sysRegs := ht.keeps_field State.sysRegs fun _ _ _ => rfl
    have hvec : t.vec = u.vec := ht.keeps_field State.vec fun _ _ _ => rfl
    have hvstat : t.vstat = u.vstat := ht.keeps_field State.vstat fun _ _ _ => rfl
    have hflags : t.flags = u.flags := ht.keeps_field State.flags fun _ _ _ => rfl
    refine ⟨⟨hpriv, (ht.keeps_field State.lock fun _ _ _ => rfl).trans hu.lock, (ht.keeps_field State.cfg fun _ _ _ => rfl).trans hu.cfg,
      (ht.keeps_field State.env fun _ _ _ => rfl).trans hu.env, (ht.keeps_field State.ctx fun _ _ _ => rfl).trans hu.ctx,
      (ht.keeps_field State.lastExit fun _ _ _ => rfl).trans hu.lastExit⟩, fun hm => ?_, fun hm => ?_, fun hm => ?_, fun hm => ?_,
      fun hne => ?_⟩
    · obtain ⟨hv, hs, hq⟩ := hu.vector (by rw [hm]; nofun)
      refine ⟨(ht.keeps_field State.r fun _ _ _ => rfl).trans (hu.narrow hm), hvec.trans hv, hvstat.trans hs,
        (ht.itstate (by rw [hm]; nofun)).trans hu.itstate, (congrArg Flags.q hflags).trans hq, ?_, ?_⟩
      · rcases ht.mode with hmode | ⟨-, -, hw, -⟩
        · exact hmode.trans hu.mode
        · exact absurd hm hw
      · rcases hu.sysRegs with hs | hl
        · exact hsys.trans hs
        · obtain ⟨-, f, rfl⟩ := sysw_of_licence hl
          cases hm
    · obtain ⟨hx, hsp⟩ := hu.wide hm
      exact ⟨(ht.keeps_field State.x fun _ _ _ => rfl).trans hx, (ht.keeps_field State.sp fun _ _ _ => rfl).trans hsp⟩
    · obtain ⟨hv, hs, hq⟩ := hu.vector (by rw [hm]; nofun)
      exact ⟨hvec.trans hv, hvstat.trans hs, (congrArg Flags.q hflags).trans hq⟩
    · exact (ht.itstate (by rw [hm]; nofun)).trans hu.itstate
    · exact sysw_of_licence (hu.sysRegs.resolve_left fun hs => hne (hsys.trans hs))

/-- Settles O15, from the licence to exchange. -/
theorem modeChangesOnlyByInterworking : Obligations.ModeChangesOnlyByInterworking := by
  intro i s t h hmode hne
  rcases (exec_effect h).cases with ht | ⟨u, hu, ht⟩
  · rw [ht] at hne
    exact absurd rfl hne
  · obtain ⟨hl, -, -, hnew⟩ := ht.mode.resolve_left fun e => hne (e.trans hu.mode)
    rcases interworking_of_licence hl with ⟨hm, hi⟩ | ⟨hm, hi⟩
    · rw [hmode] at hm
      exact .inl ⟨hm, hnew.resolve_left fun e => hne (e.trans hm.symm), hi⟩
    · rw [hmode] at hm
      exact .inr ⟨hm, hnew.resolve_right fun e => hne (e.trans hm.symm), hi⟩

/-- Settles O16, from the licences to clear the sticky bits. -/
theorem stickyBitsStay : Obligations.StickyBitsStay := by
  intro i s t h
  rcases (exec_effect h).cases with ht | ⟨u, hu, ht⟩
  · rw [ht]
    exact ⟨fun h0 h1 => absurd h0 (by rw [show s.flags.q = false from h1]; nofun),
      fun j h0 h1 => absurd h0 (by rw [show s.vstat.sat[j] = false from h1]; nofun),
      fun h0 h1 => absurd h0 (by rw [show s.vstat.ioc = false from h1]; nofun)⟩
  · have hflags : t.flags = u.flags := ht.keeps_field State.flags fun _ _ _ => rfl
    have hvstat : t.vstat = u.vstat := ht.keeps_field State.vstat fun _ _ _ => rfl
    rw [hflags, hvstat]
    exact ⟨fun h0 h1 => msr_of_licence (hu.q h0 h1), fun j h0 h1 => vmsrSat_of_licence (hu.sat j h0 h1),
      fun h0 h1 => vmsrIoc_of_licence (hu.ioc h0 h1)⟩

theorem condPassed_always (f : Flags) : f.condPassed 14 = true := rfl

/-- Every F32 instruction but `BLX` with an immediate runs behind its condition. -/
theorem exec_f32_of_fail {i : Instr} (hm : i.mode = .f32) (hc : s.flags.condPassed (shapeOf s i).cond = false) :
    exec i s = .next s.next4 := by
  have hc' : ¬ s.flags.condPassed (shapeOf s i).cond = true := by rw [hc]; nofun
  cases i with
  | f32BlxBlxi f => exact absurd hc (by rw [show (shapeOf s (.f32BlxBlxi f)).cond = 14 from rfl, condPassed_always]; nofun)
  | f32And f | f32Eor f | f32Sub f | f32Rsb f | f32Add f | f32Adc f | f32Sbc f | f32Rsc f | f32Tst f | f32Teq f
  | f32Cmp f | f32Cmn f | f32Orr f | f32Mov f | f32Bic f | f32Mvn f | f32MulMul f | f32MlaMul f
  | f32UmullMull f | f32UmlalMull f | f32SmullMull f | f32SmlalMull f | f32SwpSwp f | f32SwpbSwp f
  | f32MrsMisc f | f32MsrMisc f | f32MsrMsri f | f32BxMisc f | f32BlxMisc f | f32QaddSat f | f32QsubSat f
  | f32QdaddSat f | f32QdsubSat f | f32StrhLshi f | f32StrhLshr f | f32LdrdLshi f | f32LdrdLshr f
  | f32StrdLshi f | f32StrdLshr f | f32LdrhLshi f | f32LdrhLshr f | f32LdrsbLshi f | f32LdrsbLshr f
  | f32LdrshLshi f | f32LdrshLshr f | f32StrLsi f | f32StrLsr f | f32StrtLsi f | f32StrtLsr f | f32LdrLsi f
  | f32LdrLsr f | f32LdrtLsi f | f32LdrtLsr f | f32StrbLsi f | f32StrbLsr f | f32StrbtLsi f | f32StrbtLsr f
  | f32LdrbLsi f | f32LdrbLsr f | f32LdrbtLsi f | f32LdrbtLsr f | f32StmLsm f | f32LdmLsm f | f32BBr f
  | f32BlBr f | f32VaddVop f | f32VsubVop f | f32VqaddVop f | f32VqsubVop f | f32VshrVop f | f32VrshrVop f
  | f32VmullbVop f | f32VmulltVop f | f32VdotVop f | f32VdotaVop f | f32VmulhVop f | f32VrmulhVop f
  | f32VpackVop f | f32VqpackVop f | f32VunpkbVop f | f32VunpktVop f | f32VzipbVop f | f32VziptVop f
  | f32VandVop f | f32VorrVop f | f32VeorVop f | f32VceqVop f | f32VcgtVop f | f32VcgeVop f | f32VfceqVop f
  | f32VfcgeVop f | f32VfcgtVop f | f32VfacgeVop f | f32VfacgtVop f | f32VfcmpVop f | f32VfcmpeVop f
  | f32VmovtvVxfer f | f32VmovfvVxfer f | f32VmsrVctl f | f32VmrsVctl f | f32VstrVls f | f32VldrVls f
  | f32SyswSys f | f32SysrSys f =>
    exact congrArg Host.Outcome.next (if_neg hc')
  | _ => exact nomatch hm

/-- Every C16 instruction but the first half of `BL` runs behind its slot and advances the group when it is skipped. -/
theorem exec_c16_of_fail {i : Instr} (hm : i.mode = .c16) (hs : s.slotPassed = false) :
    exec i s = .next (match i with
      | .c16BlBl1 _ => s.next2
      | _ => s.finish2) := by
  have hs' : (!s.slotPassed) = true := by rw [hs]; rfl
  cases i with
  | c16BlBl1 f =>
    dsimp only [exec]
    rw [execC16BlBl1, if_neg (by rw [hs]; nofun)]
  | c16LslsShi f | c16LsrsShi f | c16AsrsShi f | c16AddsAs3 f | c16SubsAs3 f | c16AddsAs3i f | c16SubsAs3i f
  | c16MovsI8 f | c16CmpI8 f | c16AddsI8 f | c16SubsI8 f | c16AndsAlu f | c16EorsAlu f | c16LslsAlu f
  | c16LsrsAlu f | c16AsrsAlu f | c16AdcsAlu f | c16SbcsAlu f | c16RorsAlu f | c16TstAlu f | c16NegsAlu f
  | c16CmpAlu f | c16CmnAlu f | c16OrrsAlu f | c16MulsAlu f | c16BicsAlu f | c16MvnsAlu f | c16AddHi f
  | c16CmpHi f | c16MovHi f | c16BxBx f | c16BlxBx f | c16LdrLit f | c16StrLsr f | c16StrhLsr f | c16StrbLsr f
  | c16LdrsbLsr f | c16LdrLsr f | c16LdrhLsr f | c16LdrbLsr f | c16LdrshLsr f | c16StrLsi f | c16LdrLsi f
  | c16StrbLsi f | c16LdrbLsi f | c16StrhLsi f | c16LdrhLsi f | c16StrSpr f | c16LdrSpr f | c16AdrAdr f
  | c16AddAdr f | c16AddSpa f | c16SubSpa f | c16PushPp f | c16PopPp f | c16NopHint | c16ItIt f | c16StmiaLsm f
  | c16LdmiaLsm f | c16BBc f | c16BB f | c16BlxBl2 f | c16BlBl2 f =>
    exact congrArg Host.Outcome.next (if_pos hs')
  | _ => exact nomatch hm

/-- Settles O13: the shape of an instruction reads the condition before anything else. -/
theorem failedConditionsSkip : Obligations.FailedConditionsSkip := by
  refine ⟨fun i s hm hc => exec_f32_of_fail hm hc, fun i s hm hs => ?_⟩
  rw [exec_c16_of_fail hm hs]
  cases i <;> rfl

end Sys2Proof.Machine
end

section
/-! PROOFS. Every step keeps the invariant: what a move does to `pc` and to the group state, when the bookkeeping leaves a
block open, and what the instruction between them may change. -/

namespace Sys2Proof.Machine

variable {m : Mode} {j : Jump} {l : Licence} {qs : List Request} {s t u : State} {q : Item} {c : Context}

/-! ### The address of the next instruction -/

/-- An address that `pc` may hold in mode `m` (10_state.md R25, R28). -/
def PcOk (m : Mode) (a : DWord) : Prop := a.toNat % pcAlign m = 0 ∧ (m ≠ .w64 → a.toNat < 2 ^ 32)

theorem pcOk_of_mode {m' : Mode} {a : DWord} (e : m' = m) (h : PcOk m a) : PcOk m' a := e ▸ h

theorem pcOk_narrow {a : Word} (h : a.toNat % pcAlign m = 0) : PcOk m (a.setWidth 64) := by
  rw [PcOk, toNat_wide]
  exact ⟨h, fun _ => a.isLt⟩

theorem pcOk_wide {a : DWord} (h : a.toNat % 4 = 0) : PcOk .w64 a := ⟨h, fun hm => absurd rfl hm⟩

theorem PcOk.ia32 (h : PcOk m s.pc) (hm : m ≠ .w64) : s.ia32.toNat = s.pc.toNat := by
  rw [State.ia32, BitVec.toNat_setWidth, Nat.mod_eq_of_lt (h.2 hm)]

theorem clear2_aligned (v : Word) : (v &&& ~~~3#32).toNat % 4 = 0 := by
  rw [and_not_3, BitVec.toNat_ofNat]
  omega

theorem clear1_aligned (v : Word) : (v &&& ~~~1#32).toNat % 2 = 0 := by
  rw [and_not_1, BitVec.toNat_ofNat]
  omega

theorem clear2_aligned_wide (v : DWord) : (v &&& ~~~3#64).toNat % 4 = 0 := by
  rw [and_not_3_wide, BitVec.toNat_ofNat]
  omega

theorem shiftLeft_aligned {w k : Nat} (hk : k ≤ w) (v : BitVec w) : (v <<< k).toNat % 2 ^ k = 0 := by
  rw [BitVec.toNat_shiftLeft, Nat.shiftLeft_eq, Nat.mod_mod_of_dvd _ (Nat.pow_dvd_pow 2 hk), Nat.mul_mod_left]

theorem add_aligned {w k : Nat} (hk : k ≤ w) {a b : BitVec w} (ha : a.toNat % 2 ^ k = 0) (hb : b.toNat % 2 ^ k = 0) :
    (a + b).toNat % 2 ^ k = 0 := by
  rw [BitVec.toNat_add, Nat.mod_mod_of_dvd _ (Nat.pow_dvd_pow 2 hk), Nat.add_mod, ha, hb, Nat.zero_mod]

theorem PcOk.ia32_aligned (h : PcOk m s.pc) (hm : m ≠ .w64) : s.ia32.toNat % pcAlign m = 0 := by
  rw [h.ia32 hm]
  exact h.1

theorem targetF_aligned (h : PcOk .f32 s.pc) (imm24 : BitVec 24) : (s.targetF imm24).toNat % 4 = 0 :=
  add_aligned (k := 2) (by decide) (add_aligned (by decide) (h.ia32_aligned (by nofun)) rfl)
    (shiftLeft_aligned (by decide) _)

theorem pcOk_branchExchange (u : State) (v : Word) : PcOk (u.branchExchange v).mode (u.branchExchange v).pc := by
  unfold State.branchExchange
  split
  · exact pcOk_narrow (clear1_aligned v)
  · exact pcOk_narrow (clear2_aligned v)

theorem Moves.pcOk (h : Moves l u m j t) (hmode : u.mode = m) (hpc : PcOk m u.pc) : PcOk t.mode t.pc := by
  cases h with
  | next4 =>
    rw [State.next4_mode, hmode]
    exact pcOk_narrow (add_aligned (k := 2) (by decide) (hpc.ia32_aligned (by nofun)) rfl)
  | branchF =>
    rw [State.branchF_mode, hmode]
    exact pcOk_narrow (clear2_aligned _)
  | targetF =>
    rw [State.setPc32_mode, hmode]
    exact pcOk_narrow (targetF_aligned hpc _)
  | exchangeF => exact pcOk_branchExchange ..
  | enterC _ _ imm24 h =>
    refine pcOk_narrow (m := .c16) (add_aligned (k := 1) (by decide) ?_ (by cases h <;> rfl))
    have := targetF_aligned hpc imm24
    omega
  | next2 | finish2 | group =>
    exact pcOk_of_mode hmode
      (pcOk_narrow (add_aligned (k := 1) (by decide) (hpc.ia32_aligned (by nofun)) rfl))
  | branchC =>
    refine pcOk_of_mode hmode (pcOk_narrow (clear1_aligned _))
  | aheadC _ off =>
    exact pcOk_of_mode hmode
      (pcOk_narrow (add_aligned (k := 1) (by decide)
        (add_aligned (by decide) (hpc.ia32_aligned (by nofun)) rfl) (shiftLeft_aligned (by decide) off)))
  | exchangeC =>
    rw [State.advanceIt_mode, State.advanceIt_pc]
    exact pcOk_branchExchange ..
  | leaveC => exact pcOk_narrow (m := .f32) (clear2_aligned _)
  | nextW =>
    exact pcOk_of_mode hmode
      (pcOk_wide (add_aligned (k := 2) (by decide) hpc.1 rfl))
  | branchW =>
    exact pcOk_of_mode hmode (pcOk_wide (clear2_aligned_wide _))
  | offsetW _ off =>
    exact pcOk_of_mode hmode
      (pcOk_wide (add_aligned (k := 2) (by decide) hpc.1 (shiftLeft_aligned (by decide) off)))

/-! ### The group state -/

/-- A group state that mode `m` may have (10_state.md R39, 47_c16_compact.md R443). -/
def ItOk (m : Mode) (it : BitVec 8) : Prop := (m ≠ .c16 → it = 0) ∧ (it.extractLsb' 0 4 = 0 → it = 0)

theorem itOk_of_mode {m' : Mode} {it : BitVec 8} (e : m' = m) (h : ItOk m it) : ItOk m' it := e ▸ h

theorem itOk_zero : ItOk m 0 := ⟨fun _ => rfl, fun _ => rfl⟩

/-- The advance ends a group or leaves one active. -/
theorem advanceIt_idle (it : BitVec 8) : (advanceIt it).extractLsb' 0 4 = 0 → advanceIt it = 0 := by
  revert it
  decide

/-- After a transfer, which stands outside a group or in its last slot, no group is active. -/
theorem advanceIt_of_mayBranch (hidle : s.itstate.extractLsb' 0 4 = 0 → s.itstate = 0) (hb : s.mayBranch = true) :
    advanceIt s.itstate = 0 := by
  rcases Bool.or_eq_true_iff.1 hb with hout | hlast
  · have hlow : s.itstate.extractLsb' 0 4 = 0 := by simpa [State.inGroup] using hout
    rw [hidle hlow]
    rfl
  · exact if_pos (eq_of_beq (Bool.and_eq_true_iff.1 hlast).2)

theorem group_mask (firstcond mask : BitVec 4) : BitVec.extractLsb' 0 4 (firstcond ++ mask : BitVec 8) = mask := by
  revert firstcond mask
  decide

theorem Moves.itOk (h : Moves l u m j t) (hmode : u.mode = m) (hit : ItOk m u.itstate) (hl : l.masked) :
    ItOk t.mode t.itstate := by
  cases h with
  | next4 | branchF | targetF | nextW | branchW | offsetW =>
    exact itOk_of_mode hmode hit
  | exchangeF _ _ v =>
    rw [State.branchExchange_itstate, hit.1 (by nofun)]
    exact itOk_zero
  | enterC =>
    exact ⟨fun hm => absurd rfl hm, hit.2⟩
  | next2 => exact itOk_of_mode hmode hit
  | finish2 | branchC | aheadC => exact ⟨fun hm => absurd hmode hm, advanceIt_idle _⟩
  | @group _ firstcond mask hmask =>
    refine ⟨fun hm => absurd hmode hm, fun hlow => absurd ?_ (hmask hl)⟩
    rw [← hlow]
    exact (group_mask ..).symm
  | exchangeC _ _ hb v =>
    rw [show (State.advanceIt (u.branchExchange v)).itstate = advanceIt u.itstate by simp [State.advanceIt],
      advanceIt_of_mayBranch hit.2 hb]
    exact itOk_zero
  | leaveC _ _ hb v =>
    rw [show (State.advanceIt { u.setPc32 (v &&& ~~~3#32) with mode := .f32 }).itstate = advanceIt u.itstate from rfl,
      advanceIt_of_mayBranch hit.2 hb]
    exact itOk_zero

/-! ### Where an instruction that cannot write `pc` leaves it -/

theorem Moves.next (h : Moves l u m .none t) (hmode : u.mode = m) :
    t.pc = u.nextAddr m.instrBytes ∧ t.mode = u.mode := by
  cases h with
  | next4 | next2 | finish2 | group | nextW =>
    refine ⟨?_, rfl⟩
    rw [State.nextAddr, hmode]
    rfl
  | branchF h | targetF h | exchangeF h | enterC h | branchC h | aheadC h | exchangeC h | leaveC h | branchW h
  | offsetW h => exact absurd rfl h

/-! ### The bookkeeping -/

theorem endReason_eq_none (h : endReason q t c = .none) :
    q.jump = .none ∧ (q.context && q.executed) = false ∧ c.count ≠ t.cfg.maxBlockInsns ∧
      pageOf t.cfg t.pc = pageOf t.cfg c.start := by
  unfold endReason at h
  split at h
  case h_6 hj =>
    split_ifs at h with hctx _ hmax hpage
    exact ⟨hj, by simpa using hctx, hmax, by simpa using hpage⟩
  all_goals exact nomatch h

/-- What an instruction may change between the bookkeeping before it and after it. -/
structure Follows (q : Item) (s t : State) : Prop where
  mem : Memory.wf t.mem = true
  pcOk : PcOk t.mode t.pc
  itOk : ItOk t.mode t.itstate
  family : t.mode = .w64 ↔ s.mode = .w64
  cfg : t.cfg = s.cfg
  /-- It waits for the lock. -/
  stays : t.raised = none → q.waits = true → t.pc = s.pc ∧ t.mode = s.mode ∧ t.priv = s.priv ∧
    (t.vstat.en = s.vstat.en ∧ t.vstat.len = s.vstat.len ∧ t.vstat.stride = s.vstat.stride) ∧ t.itstate = s.itstate
  /-- It completes, without a jump and with the sampled context as it was. -/
  next : t.raised = none → q.waits = false → q.jump = .none → (q.context && q.executed) = false →
    t.pc = s.nextAddr q.len ∧ t.mode = s.mode ∧ t.priv = s.priv ∧
    (t.vstat.en = s.vstat.en ∧ t.vstat.len = s.vstat.len ∧ t.vstat.stride = s.vstat.stride)

theorem space_congr (h : t.mode = s.mode) : t.space = s.space := by rw [State.space, State.space, h]

theorem nextAddr_run {start bytes len : Nat} (hpc : PcOk s.mode s.pc)
    (hrun : (start + bytes) % 2 ^ s.space.bits = s.pc.toNat) :
    (start + (bytes + len)) % 2 ^ s.space.bits = (s.nextAddr len).toNat := by
  have hnarrow (hm : s.mode ≠ .w64) (hrun : (start + bytes) % 2 ^ 32 = s.pc.toNat) :
      (start + (bytes + len)) % 2 ^ 32 = ((s.ia32 + BitVec.ofNat 32 len).setWidth 64).toNat := by
    rw [toNat_wide, BitVec.toNat_add, hpc.ia32 hm, ← hrun, BitVec.toNat_ofNat]
    omega
  rw [State.space] at hrun ⊢
  rw [State.nextAddr]
  cases hm : s.mode with
  | f32 | c16 =>
    rw [hm] at hrun
    exact hnarrow (by rw [hm]; nofun) hrun
  | w64 =>
    rw [hm] at hrun
    simp only [Space.bits] at hrun ⊢
    rw [BitVec.toNat_add, ← hrun, BitVec.toNat_ofNat]
    omega

/-- A state whose block is closed keeps the invariant by its other fields. -/
theorem Follows.inv_closed (h : Follows q s t) (hs : s.Inv) {c' : Option Context} {e : Option BlockExit}
    (hc : ∀ c, c' = some c → c.Agrees t) : State.Inv { t with ctx := c', lastExit := e } where
  mem := h.mem
  aligned := h.pcOk.1
  narrow := h.pcOk.2
  wide := by rw [h.family, h.cfg]; exact hs.wide
  outside := h.itOk.1
  idle := h.itOk.2
  room := by rw [h.cfg]; exact hs.room
  ctx c hx := { hc c hx with }

theorem Follows.inv_closeBlock (h : Follows q s t) (hs : s.Inv) (c : Context) (r : Reason) (e : ExitKind) :
    (t.closeBlock c r e).Inv := h.inv_closed hs fun _ hx => nomatch hx

theorem Follows.inv_account (h : Follows q s t) (hs : s.Inv) (hc : s.ctx = some c) : (t.account q c).Inv := by
  have hagree := hs.ctx c hc
  unfold State.account
  split
  · exact h.inv_closeBlock hs ..
  · next hraised =>
    split
    · next hw =>
      obtain ⟨hpc, hmode, hpriv, ⟨hen, hlen, hstride⟩, hit⟩ := h.stays hraised hw
      refine h.inv_closed (e := t.lastExit) hs ?_
      rintro _ ⟨⟩
      exact { pc := hagree.pc.trans hpc.symm
              mode := hagree.mode.trans hmode.symm
              priv := hagree.priv.trans hpriv.symm
              en := hagree.en.trans hen.symm
              len := hagree.len.trans hlen.symm
              stride := hagree.stride.trans hstride.symm
              itstate := hagree.itstate.trans hit.symm
              reason := hagree.reason
              skip := rfl
              skipTarget := rfl
              room := by rw [h.cfg]; exact hagree.room
              page := by rw [h.cfg, hpc]; exact hagree.page
              run := by
                rw [space_congr (s := s) hmode, hpc]
                exact hagree.run }
    · next hw =>
      dsimp only
      split
      · next hnone =>
        obtain ⟨hj, hctx, hmax, hpage⟩ := endReason_eq_none hnone
        obtain ⟨hpc, hmode, hpriv, hen, hlen, hstride⟩ := h.next hraised (by simpa using hw) hj hctx
        refine h.inv_closed (e := t.lastExit) hs ?_
        rintro _ ⟨⟩
        exact { pc := rfl
                mode := hagree.mode.trans hmode.symm
                priv := hagree.priv.trans hpriv.symm
                en := hagree.en.trans hen.symm
                len := hagree.len.trans hlen.symm
                stride := hagree.stride.trans hstride.symm
                itstate := rfl
                reason := hagree.reason
                skip := rfl
                skipTarget := rfl
                room := Nat.lt_of_le_of_ne (by rw [h.cfg]; exact hagree.room) hmax
                page := hpage
                run := by
                  rw [space_congr (s := s) hmode, hpc]
                  exact nextAddr_run ⟨hs.aligned, hs.narrow⟩ hagree.run }
      · exact h.inv_closeBlock hs ..

/-! ### An instruction in an open block -/

theorem swap_waits {size : Nat} {f : F32.SWP}
    (h : (s.flags.condPassed f.cond && s.lock == .held && f.rd != 15 && f.rm != 15 && f.rn != 15) = true) :
    swap size f s = .next s := by
  simp only [Bool.and_eq_true, beq_iff_eq, bne_iff_ne] at h
  obtain ⟨⟨⟨⟨hc, hl⟩, hd⟩, hm⟩, hn⟩ := h
  unfold swap
  rw [f32Run_pass hc, if_neg (by simp [hd, hm, hn]), hl]

/-- A swap that waits for the lock changes nothing. -/
theorem exec_of_waits {i : Instr} (h : waitsForLock i s = true) : exec i s = .next s := by
  unfold waitsForLock at h
  split at h
  · exact swap_waits h
  · exact swap_waits h
  · cases h

theorem waits_of_licence {i : Instr} (h : (licenceOf s i).waits) : waitsForLock i s = true := by
  unfold licenceOf at h
  split at h
  case h_1 f => exact h
  case h_2 f => exact h
  all_goals exact False.elim h

theorem samples_of_licence {i : Instr} (h : (licenceOf s i).samples) (hmode : i.mode = s.mode) :
    ((itemOf i s).context && (itemOf i s).executed) = true := by
  unfold licenceOf at h
  split at h
  case h_5 f =>
    rw [Bool.and_eq_true]
    refine ⟨rfl, ?_⟩
    rw [Item.executed, itemOf, guardOf, ← hmode]
    show ((s.guardF f.cond) != some false) = true
    rw [State.guardF, show s.flags.condPassed f.cond = true from h]
    split <;> rfl
  all_goals exact False.elim h

theorem masked_of_wf {i : Instr} (h : i.wf = true) : (licenceOf s i).masked := by
  unfold licenceOf
  split
  case h_17 f => exact bne_iff_ne.1 h
  all_goals exact trivial

theorem follows_exec {i : Instr} (hs : State.Inv { s with ctx := none }) (hwf : i.wf = true) (hmode : i.mode = s.mode)
    (h : exec i s = .next t) : Follows (itemOf i s) s t := by
  have hpc : PcOk s.mode s.pc := ⟨hs.aligned, hs.narrow⟩
  have hit : ItOk s.mode s.itstate := ⟨hs.outside, hs.idle⟩
  have hstays : t.raised = none → waitsForLock i s = true → t = s := by
    intro _ hw
    rw [exec_of_waits hw] at h
    injection h with h
    exact h.symm
  cases exec_effect h with
  | undef => exact ⟨hs.mem, hpc, hit, .rfl, rfl, nofun, nofun⟩
  | waits _ hl =>
    exact ⟨hs.mem, hpc, hit, .rfl, rfl, fun _ _ => ⟨rfl, rfl, rfl, ⟨rfl, rfl, rfl⟩, rfl⟩,
      fun _ hw => absurd (waits_of_licence hl) (by rw [show waitsForLock i s = false from hw]; nofun)⟩
  | aborts h =>
    obtain ⟨_, _, _, _, _, _, _, _, hmem, rfl⟩ := h
    exact ⟨(hmem hs.mem).1, hpc, hit, .rfl, rfl, nofun, nofun⟩
  | @done u _ _ hu ht =>
    have humode : u.mode = i.mode := hu.mode.trans hmode.symm
    refine ⟨?_, ht.pcOk humode (by rw [hu.pc, hmode]; exact hpc),
      ht.itOk humode (by rw [hu.itstate, hmode]; exact hit) (masked_of_wf hwf), ?_,
      (ht.keeps_field State.cfg fun _ _ _ => rfl).trans hu.cfg, fun hr hw => ?_, fun hr hw hj hctx => ?_⟩
    · rw [ht.keeps_field State.mem fun _ _ _ => rfl]
      exact hu.mem hs.mem
    · rcases ht.mode with hm | ⟨-, -, hw, hm⟩
      · rw [hm, hu.mode]
      · refine iff_of_false (fun e => ?_) fun e => hw (hmode.trans e)
        rw [e] at hm
        exact hm.elim nofun nofun
    · rw [hstays hr hw]
      exact ⟨rfl, rfl, rfl, ⟨rfl, rfl, rfl⟩, rfl⟩
    · rw [show (shapeOf s i).jump = .none from hj] at ht
      obtain ⟨htpc, htmode⟩ := ht.next humode
      have hsampled := hu.sampled.resolve_right fun hl => by
        rw [samples_of_licence hl hmode] at hctx
        cases hctx
      refine ⟨?_, htmode.trans hu.mode, (ht.keeps_field State.priv fun _ _ _ => rfl).trans hu.priv, ?_⟩
      · rw [htpc, hmode]
        simp only [State.nextAddr, State.ia32, hu.pc, hu.mode]
        rfl
      · rw [ht.keeps_field State.vstat fun _ _ _ => rfl]
        exact hsampled

/-- A raise changes nothing else. -/
theorem follows_raise (hs : State.Inv { s with ctx := none }) (q : Item) (cause : Cause) (a : Option Access) : Follows q s (s.raise cause a) :=
  ⟨hs.mem, ⟨hs.aligned, hs.narrow⟩, ⟨hs.outside, hs.idle⟩, .rfl, rfl, nofun, nofun⟩

theorem moves_skip (s : State) : Moves {} s s.mode .none s.skip := by
  rw [State.skip]
  generalize s.mode = m
  cases m with
  | f32 => exact .next4
  | c16 => exact .finish2
  | w64 => exact .nextW

theorem follows_skip (hs : State.Inv { s with ctx := none }) (g : Option Bool) : Follows (Item.unclassified s g) s s.skip := by
  have ht := moves_skip s
  have hkeep {α : Type} (f : State → α) (hf : ∀ pc mode it, f { s with pc := pc, mode := mode, itstate := it } = f s) :
      f s.skip = f s := ht.keeps_field f hf
  obtain ⟨hpc, hmode⟩ := ht.next rfl
  exact {
    mem := by
      rw [hkeep State.mem fun _ _ _ => rfl]
      exact hs.mem
    pcOk := ht.pcOk rfl ⟨hs.aligned, hs.narrow⟩
    itOk := ht.itOk rfl ⟨hs.outside, hs.idle⟩ trivial
    family := by rw [hmode]
    cfg := hkeep State.cfg fun _ _ _ => rfl
    stays := nofun
    next := fun _ _ _ _ => ⟨hpc, hmode, hkeep State.priv fun _ _ _ => rfl,
      hkeep (fun s => s.vstat.en) fun _ _ _ => rfl, hkeep (fun s => s.vstat.len) fun _ _ _ => rfl,
      hkeep (fun s => s.vstat.stride) fun _ _ _ => rfl⟩ }

/-! ### The step -/

theorem State.openBlock_eq (s : State) : s.openBlock = { s with ctx := some (s.ctx.getD s.sample) } := by
  unfold State.openBlock
  split
  · next h => rw [h, Option.getD_some, ← h]
  · next h => rw [h, Option.getD_none]

theorem inv_openBlock (hs : s.Inv) : s.openBlock.Inv := by
  rw [State.openBlock_eq]
  refine { hs with ctx := ?_ }
  rintro _ ⟨⟩
  cases hc : s.ctx with
  | some c => exact { hs.ctx c hc with }
  | none =>
    refine ⟨rfl, rfl, rfl, rfl, rfl, rfl, rfl, rfl, rfl, rfl, hs.room, rfl, ?_⟩
    show (s.pc.toNat + 0) % 2 ^ s.space.bits = s.pc.toNat
    refine Nat.mod_eq_of_lt ?_
    rw [State.space]
    cases hm : s.mode with
    | f32 | c16 => exact hs.narrow (by rw [hm]; nofun)
    | w64 => exact s.pc.isLt

/-- The guard is marked in the context alone. -/
theorem State.enterGuard_eq (hc : s.ctx = some c) (q : Item) : s.enterGuard q = { s with ctx := some { c with
    skip := q.guard.isSome, skipTarget := q.guard.map fun _ => s.nextAddr q.len } } := by
  rw [State.enterGuard, hc]

/-- What follows the state with the guard marked follows the state before. -/
theorem Follows.of_enterGuard (hc : s.ctx = some c) (h : Follows q (s.enterGuard q) t) : Follows q s t := by
  rw [State.enterGuard_eq hc] at h
  exact { h with }

theorem inv_enterGuard (hs : s.Inv) (hc : s.ctx = some c) (q : Item) :
    State.Inv { s.enterGuard q with ctx := none } := by
  rw [State.enterGuard_eq hc]
  exact { hs with ctx := fun _ hx => nomatch hx }

theorem itemOf_enterGuard (hc : s.ctx = some c) (i : Instr) (q : Item) : itemOf i (s.enterGuard q) = itemOf i s := by
  rw [State.enterGuard_eq hc]
  cases i <;> rfl

theorem Follows.inv_accountFrom (h : Follows q s t) (hs : s.Inv) (hc : s.ctx = some c) :
    (s.accountFrom q t).Inv := by
  rw [State.accountFrom, hc]
  exact h.inv_account hs hc

theorem inv_runUnclassified (hs : s.Inv) (hc : s.ctx = some c) (w : Nat) : (s.runUnclassified w).Inv := by
  refine Follows.inv_accountFrom (.of_enterGuard hc ?_) hs hc
  have hs' := inv_enterGuard hs hc (Item.unclassified s (s.guardUnclassified w))
  rw [State.unclassified]
  split
  · have hlen : (s.enterGuard (Item.unclassified s (s.guardUnclassified w))).mode = s.mode := by
      rw [State.enterGuard_eq hc]
    have h := follows_skip hs' (s.guardUnclassified w)
    rw [Item.unclassified, hlen] at h
    exact h
  · exact follows_raise hs' ..

theorem inv_runInstr (hs : s.Inv) (hc : s.ctx = some c) {i : Instr} (hwf : i.wf = true) (hmode : i.mode = s.mode)
    (h : s.runInstr i = .next t) : t.Inv := by
  have hs' := inv_enterGuard hs hc (itemOf i s)
  have hmode' : i.mode = (s.enterGuard (itemOf i s)).mode := by
    rw [State.enterGuard_eq hc]
    exact hmode
  obtain ⟨u, hu, -⟩ := exec_answers i (s.enterGuard (itemOf i s))
  rw [State.runInstr, hu] at h
  injection h with h
  subst h
  have hf := follows_exec hs' hwf hmode' hu
  rw [itemOf_enterGuard hc] at hf
  exact hf.of_enterGuard hc |>.inv_accountFrom hs hc

theorem inv_runOne (hs : s.Inv) (hc : s.ctx = some c) (h : s.runOne = .next t) : t.Inv := by
  have hraise (cause : Cause) : (s.accountFrom (Item.unclassified s none) (s.raise cause none)).Inv :=
    (follows_raise { hs with ctx := fun _ hx => nomatch hx } _ cause none).inv_accountFrom hs hc
  unfold State.runOne at h
  split at h
  · injection h with h
    exact h ▸ hraise .debug
  · injection h with h
    exact h ▸ hraise .fetchAbort
  · unfold State.runWord at h
    split at h
    · next hdec =>
      obtain ⟨hwf, hmode⟩ := answersIn_of_decodeWord hdec
      exact inv_runInstr hs hc hwf hmode h
    · injection h with h
      exact h ▸ inv_runUnclassified hs hc _

/-- Settles O3. A pending raise is not delivered by `step`; otherwise an instruction is run in an open block. -/
theorem invariantKeptByStep : Obligations.InvariantKeptByStep := by
  intro s t hs h
  unfold step stepWith at h
  split at h
  · exact nomatch h
  · refine inv_runOne (inv_openBlock hs) (c := s.ctx.getD s.sample) ?_ h
    rw [State.openBlock_eq]

end Sys2Proof.Machine
end

section
/-! PROOFS. Reset, and the step around the instruction: what is fetched, and that the block bookkeeping changes nothing
of the architectural state. -/

namespace Sys2Proof.Machine

variable {s t : State} {q : Item}

/-! ### Reset -/

/-- Settles O1, by the definition of the reset state. -/
theorem resetLeavesTheStatedValues : Obligations.ResetLeavesTheStatedValues := by
  intro p mem cells
  dsimp only
  exact ⟨fun i => Vector.getElem_replicate i.isLt, fun i => Vector.getElem_replicate i.isLt, rfl, rfl, rfl, rfl, rfl,
    rfl, fun i => Vector.getElem_replicate i.isLt, rfl, ⟨rfl, rfl, rfl⟩, ⟨rfl, rfl⟩, rfl, rfl⟩

theorem inv_resetWith {p : Params} {mem : List Host.Cell} (cells : List SysCell) (hp : p.wf = true)
    (hmem : Memory.wf mem = true) : (State.resetWith p mem cells).Inv := by
  simp only [Params.wf, Bool.and_eq_true, Bool.or_eq_true, beq_iff_eq, decide_eq_true_eq] at hp
  obtain ⟨⟨⟨⟨halign, hnarrow⟩, -⟩, -⟩, hroom⟩ := hp
  have hmode : (State.resetWith p mem cells).mode = .w64 ↔ p.resetMode = .w64 := by
    show p.resetMode.toMode = .w64 ↔ _
    cases p.resetMode <;> simp [ResetMode.toMode]
  refine ⟨hmem, ?_, fun hm => ?_, hmode, fun _ => rfl, fun _ => rfl, hroom, fun _ hc => nomatch hc⟩
  · show p.resetPc.toNat % pcAlign p.resetMode.toMode = 0
    cases p.resetMode <;> exact halign
  · exact hnarrow.resolve_left fun hw => hm (hmode.2 hw)

/-- Settles O2; the default parameters lie in their domains. -/
theorem invariantHoldsAtReset : Obligations.InvariantHoldsAtReset :=
  ⟨fun _ _ cells hp hmem => inv_resetWith cells hp hmem, inv_resetWith [] (by decide) rfl⟩

/-! ### The fetch -/

theorem step_eq_runOne (h : s.raised = none) : step s = s.openBlock.runOne := by
  rw [step, stepWith, h]

theorem State.fetch_openBlock (s : State) : s.openBlock.fetch = s.fetch := by
  rw [State.openBlock_eq]
  rfl

theorem State.fetch_of_breakpoint (h : s.pc ∈ s.env.breakpoints) : s.fetch = .debug := if_pos h

theorem State.fetch_of_refused (hb : s.pc ∉ s.env.breakpoints)
    (h : s.aborts .fetch s.pc s.mode.instrBytes s.priv = true) : s.fetch = .abort := by
  rw [State.fetch, if_neg hb, if_pos h]

/-- The bits that the port answers (20_memory.md R76). -/
theorem State.fetch_of_answered (hb : s.pc ∉ s.env.breakpoints)
    (h : s.aborts .fetch s.pc s.mode.instrBytes s.priv = false) :
    s.fetch = .word (bytesAt s.mem s.cfg.endian s.space.bits s.pc.toNat s.mode.instrBytes) := by
  rw [State.fetch, if_neg hb, if_neg (by rw [h]; nofun), Memory.load_eq]

theorem State.mode_openBlock (s : State) : s.openBlock.mode = s.mode := by rw [State.openBlock_eq]

theorem step_of_word (hr : s.raised = none) (hb : s.pc ∉ s.env.breakpoints)
    (h : s.aborts .fetch s.pc s.mode.instrBytes s.priv = false) :
    step s = s.openBlock.runWord (bytesAt s.mem s.cfg.endian s.space.bits s.pc.toNat s.mode.instrBytes) := by
  rw [step_eq_runOne hr, State.runOne, State.fetch_openBlock, State.fetch_of_answered hb h]

/-- Settles O4: the step opens the block, and the fetched word decodes to `i`. -/
theorem stepRunsDecodedInstruction : Obligations.StepRunsDecodedInstruction := by
  intro s i hr hb h hi
  rw [step_of_word hr hb h, State.runWord, State.mode_openBlock, hi]
  rfl

/-! ### The bookkeeping and the architectural state -/

theorem arch_account (t : State) (q : Item) (c : Context) : (t.account q c).arch = t.arch := by
  unfold State.account
  split
  · rfl
  · split
    · rfl
    · dsimp only
      split <;> rfl

theorem arch_accountFrom (s : State) (q : Item) (t : State) : (s.accountFrom q t).arch = t.arch := by
  unfold State.accountFrom
  split
  · rfl
  · exact arch_account ..

/-- An outcome up to the block bookkeeping. -/
theorem onNext_accountFrom_arch (s : State) (q : Item) (o : Host.Outcome State Fault Refusal) :
    onNext (onNext o (s.accountFrom q)) State.arch = onNext o State.arch := by
  cases o with
  | next t => exact congrArg Host.Outcome.next (arch_accountFrom s q t)
  | fault | refused => rfl

/-- A state with another open context. -/
theorem exists_enterGuard_openBlock (s : State) (q : Item) : ∃ c, s.openBlock.enterGuard q = { s with ctx := some c } := by
  rw [State.openBlock_eq]
  exact ⟨_, rfl⟩

/-! ### Unclassified patterns -/

theorem arch_unclassified_ctx (s : State) (c : Option Context) (w : Nat) :
    (State.unclassified { s with ctx := c } w).arch = (s.unclassified w).arch := by
  have hg : State.guardUnclassified { s with ctx := c } w = s.guardUnclassified w := rfl
  rw [State.unclassified, State.unclassified, hg]
  split
  · obtain ⟨r, x, sp, pc, flags, mode, _⟩ := s
    cases mode <;> rfl
  · rfl

theorem unclassified_f32 (hm : s.mode = .f32) (w : Nat) :
    s.unclassified w = if w / 2 ^ 28 % 16 = 15 ∨ s.flags.condPassed (BitVec.ofNat 4 (w / 2 ^ 28)) = true then s.undef
      else s.next4 := by
  have hcond : BitVec.ofNat 4 (fld w 28 4) = BitVec.ofNat 4 (w / 2 ^ 28) := by
    apply BitVec.eq_of_toNat_eq
    simp [fld]
  have hfld : fld w 28 4 = w / 2 ^ 28 % 16 := by simp [fld]
  rw [State.unclassified, State.guardUnclassified, State.skip, hm]
  dsimp only
  rw [hcond, hfld, State.guardF]
  by_cases h15 : w / 2 ^ 28 % 16 = 15
  · rw [if_pos h15, if_neg nofun, if_pos (.inl h15)]
  · rw [if_neg h15]
    by_cases h14 : BitVec.ofNat 4 (w / 2 ^ 28) = 14
    · rw [if_pos h14, if_neg nofun, h14, if_pos (.inr (condPassed_always _))]
    · rw [if_neg h14]
      by_cases hc : s.flags.condPassed (BitVec.ofNat 4 (w / 2 ^ 28)) = true
      · rw [hc, if_neg (by nofun), if_pos (.inr rfl)]
      · rw [if_pos (by rw [Bool.eq_false_iff.2 hc]), if_neg (not_or.2 ⟨h15, hc⟩)]

theorem slotPassed_of_idle (h : s.inGroup = false) : s.slotPassed = true := by
  rw [State.slotPassed, State.slotCond, if_neg (by rw [h]; nofun), condPassed_always]

theorem unclassified_c16 (hm : s.mode = .c16) (w : Nat) :
    s.unclassified w = if s.slotPassed = true then s.undef else s.finish2 := by
  rw [State.unclassified, State.guardUnclassified, State.skip, hm]
  dsimp only
  cases hg : s.inGroup with
  | false => rw [slotPassed_of_idle hg]; rfl
  | true => cases s.slotPassed <;> rfl

theorem unclassified_w64 (hm : s.mode = .w64) (w : Nat) : s.unclassified w = s.undef := by
  rw [State.unclassified, State.guardUnclassified, hm]
  exact if_neg nofun

theorem arch_runUnclassified (s : State) (w : Nat) : (s.openBlock.runUnclassified w).arch = (s.unclassified w).arch := by
  obtain ⟨c, hc⟩ := exists_enterGuard_openBlock s (Item.unclassified s.openBlock (s.openBlock.guardUnclassified w))
  rw [State.runUnclassified, arch_accountFrom, hc, arch_unclassified_ctx]

theorem arch_openBlock_raise (s : State) (cause : Cause) :
    (s.openBlock.raise cause none).arch = State.arch { s with raised := some ⟨cause, s.pc, none⟩ } := by
  rw [State.openBlock_eq]
  rfl

/-- Settles O6: the branches of a step before an instruction runs, in their order. -/
theorem stepsWithoutAnInstruction : Obligations.StepsWithoutAnInstruction := by
  refine ⟨⟨fun s hr hb => ?_, fun s hr hb ha => ?_, fun delivery s r hr => ?_⟩, fun s w e hr hb ha hw hd => ?_⟩
  · rw [step_eq_runOne hr, State.runOne, State.fetch_openBlock, State.fetch_of_breakpoint hb]
    exact congrArg Host.Outcome.next ((arch_accountFrom ..).trans (arch_openBlock_raise s .debug))
  · rw [step_eq_runOne hr, State.runOne, State.fetch_openBlock, State.fetch_of_refused hb ha]
    exact congrArg Host.Outcome.next ((arch_accountFrom ..).trans (arch_openBlock_raise s .fetchAbort))
  · rw [stepWith, hr]
    simp only [State.deliver]
    cases delivery r s <;> rfl
  · rw [step_of_word hr hb ha, State.runWord, State.mode_openBlock, hw, hd]
    refine congrArg Host.Outcome.next ((arch_runUnclassified s w).trans ?_)
    split
    · next hm =>
      rw [unclassified_f32 hm]
      split <;> rfl
    · next hm =>
      rw [unclassified_c16 hm]
      split <;> rfl
    · next hm =>
      rw [unclassified_w64 hm]
      rfl

end Sys2Proof.Machine
end

section
/-! PROOFS. Blocks are invisible: every instruction does the same at another place in the blocks and under other block
parameters. -/

namespace Sys2Proof.Machine

/-- A place in the blocks, and the block parameters. -/
structure BlockPlace where
  ctx : Option Context
  lastExit : Option BlockExit
  page : Nat
  max : Nat
  link : LinkPolicy
  single : Bool

/-- The same machine at the place `b`. -/
def BlockPlace.move (b : BlockPlace) (s : State) : State := s.reblock b.ctx b.lastExit b.page b.max b.link b.single

variable {b : BlockPlace} {s u u' : State}

/-! ### The writers -/

theorem move_setR (h : u' = b.move u) (i : Fin 16) (v : Word) : u'.setR i v = b.move (u.setR i v) := by
  subst h
  unfold State.setR
  split <;> rfl

theorem move_writeBack32 (h : u' = b.move u) (i : Fin 16) (v : Option Word) :
    u'.writeBack32 i v = b.move (u.writeBack32 i v) := by
  cases v with
  | none => exact h
  | some v => exact move_setR h i v

theorem move_writeLoaded (h : u' = b.move u) (vs : List (Fin 16 × Word)) :
    u'.writeLoaded vs = b.move (u.writeLoaded vs) := by
  induction vs generalizing u u' with
  | nil => exact h
  | cons p vs ih => exact ih (move_setR h p.1 p.2)

theorem move_setX (h : u' = b.move u) (i : Fin 32) (v : DWord) : u'.setX i v = b.move (u.setX i v) := by
  subst h
  unfold State.setX
  split <;> rfl

theorem move_setXsp (h : u' = b.move u) (i : Fin 32) (v : DWord) : u'.setXsp i v = b.move (u.setXsp i v) := by
  subst h
  unfold State.setXsp
  split <;> rfl

theorem move_writeBackX (h : u' = b.move u) (i : Fin 32) (v : Option DWord) :
    u'.writeBackX i v = b.move (u.writeBackX i v) := by
  cases v with
  | none => exact h
  | some v => exact move_setXsp h i v

theorem move_branchExchange (h : u' = b.move u) (v : Word) : u'.branchExchange v = b.move (u.branchExchange v) := by
  subst h
  unfold State.branchExchange
  split <;> rfl

theorem move_withFlagsS (h : u' = b.move u) (f : Flags) : u'.withFlagsS f = b.move (u.withFlagsS f) := by
  subst h
  show (if u.inGroup then _ else _) = _
  unfold State.withFlagsS
  split <;> rfl

theorem move_next4 (h : u' = b.move u) : u'.next4 = b.move u.next4 := h ▸ rfl

theorem move_finish2 (h : u' = b.move u) : u'.finish2 = b.move u.finish2 := h ▸ rfl

theorem move_branchF (h : u' = b.move u) (v : Word) : u'.branchF v = b.move (u.branchF v) := h ▸ rfl

theorem move_branchC (h : u' = b.move u) (v : Word) : u'.branchC v = b.move (u.branchC v) := h ▸ rfl

theorem move_branchW (h : u' = b.move u) (v : DWord) : u'.branchW v = b.move (u.branchW v) := h ▸ rfl

theorem move_setPc32 (h : u' = b.move u) (v : Word) : u'.setPc32 v = b.move (u.setPc32 v) := h ▸ rfl

theorem move_advanceIt (h : u' = b.move u) : u'.advanceIt = b.move u.advanceIt := h ▸ rfl

theorem move_next2 (h : u' = b.move u) : u'.next2 = b.move u.next2 := h ▸ rfl

theorem move_nextW (h : u' = b.move u) : u'.nextW = b.move u.nextW := h ▸ rfl

/-! ### Branches of a definition, and the memory port -/

theorem move_ite {p : Prop} [Decidable p] {x x' y y' : State} (hx : x' = b.move x) (hy : y' = b.move y) :
    (if p then x' else y') = b.move (if p then x else y) := by
  split <;> assumption

theorem move_load {r r' : Except Access Nat} {e e' : Access → State} {k k' : Nat → State} (hr : r' = r)
    (he : ∀ a, e' a = b.move (e a)) (hk : ∀ v, k' v = b.move (k v)) :
    (match (generalizing := false) r' with | .error a => e' a | .ok v => k' v) =
      b.move (match (generalizing := false) r with | .error a => e a | .ok v => k v) := by
  subst hr
  cases r' with
  | error a => exact he a
  | ok v => exact hk v

theorem move_store {r r' : Except Access State} {e e' : Access → State} {k k' : State → State}
    (hr : r' = r.map b.move) (he : ∀ a, e' a = b.move (e a)) (hk : ∀ t, k' (b.move t) = b.move (k t)) :
    (match (generalizing := false) r' with | .error a => e' a | .ok t => k' t) =
      b.move (match (generalizing := false) r with | .error a => e a | .ok t => k t) := by
  subst hr
  cases r with
  | error a => exact he a
  | ok v => exact hk v

theorem load_move (s : State) (sp : Space) (acc : Priv) (addr : DWord) (size : Nat) :
    (b.move s).load sp acc addr size = s.load sp acc addr size := rfl

theorem store_move (s : State) (sp : Space) (acc : Priv) (addr : DWord) (size v : Nat) :
    (b.move s).store sp acc addr size v = (s.store sp acc addr size v).map b.move := by
  have ha : (b.move s).aborts .write addr size acc = s.aborts .write addr size acc := rfl
  unfold State.store
  rw [ha]
  split <;> rfl

theorem move_f32Run {c : Cond} {f : State → State} (hf : f (b.move s) = b.move (f s)) :
    f32Run c (b.move s) f = onNext (f32Run c s f) b.move :=
  congrArg Host.Outcome.next (move_ite hf rfl)

theorem move_c16Run {legal : State → Bool} {f : State → State} (hl : legal (b.move s) = legal s)
    (hf : f (b.move s) = b.move (f s)) : c16Run legal (b.move s) f = onNext (c16Run legal s f) b.move := by
  unfold c16Run
  rw [hl]
  exact congrArg Host.Outcome.next (move_ite rfl (move_ite hf rfl))

theorem move_loadList {r r' : Except Access (List (Fin 16 × Word))} {e e' : Access → State}
    {k k' : List (Fin 16 × Word) → State} (hr : r' = r) (he : ∀ a, e' a = b.move (e a))
    (hk : ∀ v, k' v = b.move (k v)) :
    (match (generalizing := false) r' with | .error a => e' a | .ok v => k' v) =
      b.move (match (generalizing := false) r with | .error a => e a | .ok v => k v) := by
  subst hr
  cases r' with
  | error a => exact he a
  | ok v => exact hk v

theorem loadWords_move (s : State) (addr : Word) (rs : List (Fin 16)) :
    (b.move s).loadWords addr rs = s.loadWords addr rs := by
  have hl (a : Word) : (b.move s).load32 (b.move s).priv a 4 = s.load32 s.priv a 4 := rfl
  induction rs generalizing addr with
  | nil => rfl
  | cons i rs ih =>
    rw [State.loadWords, State.loadWords, hl, ih]

theorem move_storeList {p p' : State × Option Access} {e e' : State → Access → State} {k k' : State → State}
    (hp : p' = (b.move p.1, p.2)) (he : ∀ t a, e' (b.move t) a = b.move (e t a))
    (hk : ∀ t, k' (b.move t) = b.move (k t)) :
    (match (generalizing := false) p' with | (t, some a) => e' t a | (t, none) => k' t) =
      b.move (match (generalizing := false) p with | (t, some a) => e t a | (t, none) => k t) := by
  subst hp
  obtain ⟨t, _ | a⟩ := p
  · exact hk t
  · exact he t a

theorem storeWords_move (s : State) (addr : Word) (vs : List Word) :
    (b.move s).storeWords addr vs = (b.move (s.storeWords addr vs).1, (s.storeWords addr vs).2) := by
  induction vs generalizing s addr with
  | nil => rfl
  | cons v vs ih =>
    rw [State.storeWords, State.storeWords,
      show (b.move s).store32 (b.move s).priv addr 4 v.toNat = (s.store32 s.priv addr 4 v.toNat).map b.move from
        store_move ..]
    cases s.store32 s.priv addr 4 v.toNat with
    | error a => rfl
    | ok t => exact ih t (addr + 4)

/-! ### F32 -/

theorem move_dataProcessing (alu : Alu) (f : F32.DP) :
    dataProcessing alu f (b.move s) = onNext (dataProcessing alu f s) b.move := by
  refine move_f32Run (move_ite rfl ?_)
  dsimp only
  exact move_ite (move_branchF (move_ite (by rfl) (by rfl)) _)
    (move_next4 (move_setR (move_ite (by rfl) (by rfl)) _ _))

theorem move_dataCompare (alu : Alu) (f : F32.DPC) :
    dataCompare alu f (b.move s) = onNext (dataCompare alu f s) b.move :=
  move_f32Run (move_ite rfl rfl)

theorem move_mulResult (setFlags : Bool) (rd : Fin 16) (v : Word) :
    (b.move s).mulResult setFlags rd v = b.move (s.mulResult setFlags rd v) :=
  move_next4 (move_setR (move_ite (by rfl) (by rfl)) _ _)

theorem move_multiplyLong (mul : Word → Word → DWord → DWord) (f : F32.MULL) :
    multiplyLong mul f (b.move s) = onNext (multiplyLong mul f s) b.move := by
  refine move_f32Run (move_ite rfl ?_)
  dsimp only
  exact move_next4 (move_setR (move_setR (move_ite (by rfl) (by rfl)) _ _) _ _)

theorem move_saturating (op : Int → Int → Int × Bool) (f : F32.SAT) :
    saturating op f (b.move s) = onNext (saturating op f s) b.move := by
  refine move_f32Run (move_ite rfl ?_)
  dsimp only
  exact move_next4 (move_setR (by rfl) _ _)

theorem move_writeSR (fmask : BitVec 4) (v : Word) : (b.move s).writeSR fmask v = b.move (s.writeSR fmask v) :=
  move_next4 (move_ite (by rfl) (by rfl))

theorem move_loadSingle (a : SingleAddr) (acc : Priv) (size : Nat) (extend : Nat → Word) (rd : Fin 16)
    (pcAllowed : Bool) :
    loadSingle (b.move s) a acc size extend rd pcAllowed = b.move (loadSingle s a acc size extend rd pcAllowed) := by
  refine move_ite rfl ?_
  dsimp only
  refine move_load (load_move ..) (by exact fun _ => rfl) fun v => ?_
  exact move_ite (move_branchExchange (move_writeBack32 rfl _ _) _)
    (move_next4 (move_setR (move_writeBack32 rfl _ _) _ _))

theorem move_storeSingle (a : SingleAddr) (acc : Priv) (size : Nat) (rd : Fin 16) (pcAllowed : Bool) :
    storeSingle (b.move s) a acc size rd pcAllowed = b.move (storeSingle s a acc size rd pcAllowed) := by
  refine move_ite rfl ?_
  dsimp only
  refine move_store (store_move ..) (by exact fun _ => rfl) fun t => ?_
  exact move_next4 (move_writeBack32 rfl _ _)

theorem move_loadDouble (a : SingleAddr) (rd : Fin 16) :
    loadDouble (b.move s) a rd = b.move (loadDouble s a rd) := by
  refine move_ite rfl ?_
  dsimp only
  refine move_load (load_move ..) (by exact fun _ => rfl) fun v => ?_
  refine move_load (load_move ..) (by exact fun _ => rfl) fun w => ?_
  exact move_next4 (move_setR (move_setR (move_writeBack32 rfl _ _) _ _) _ _)

theorem move_storeDouble (a : SingleAddr) (rd : Fin 16) :
    storeDouble (b.move s) a rd = b.move (storeDouble s a rd) := by
  refine move_ite rfl ?_
  dsimp only
  refine move_store (store_move ..) (by exact fun _ => rfl) fun t => ?_
  refine move_store (store_move ..) (by exact fun _ => rfl) fun u => ?_
  exact move_next4 (move_writeBack32 rfl _ _)

theorem move_swap (size : Nat) (f : F32.SWP) : swap size f (b.move s) = onNext (swap size f s) b.move := by
  refine move_f32Run (move_ite rfl ?_)
  have hl : (b.move s).lock = s.lock := rfl
  rw [hl]
  cases s.lock with
  | held => rfl
  | free =>
    dsimp only
    refine move_load (r := s.acquire.load32 s.priv (s.rF f.rn) size) rfl (by exact fun _ => rfl) fun v => ?_
    refine move_store (store_move s.acquire ..) (by exact fun _ => rfl) fun t => ?_
    exact move_next4 (move_setR (by rfl) _ _)

theorem move_ldm (f : F32.LSM) : execF32LdmLsm f (b.move s) = onNext (execF32LdmLsm f s) b.move := by
  refine move_f32Run (move_ite rfl ?_)
  dsimp only
  refine move_loadList (loadWords_move ..) (by exact fun _ => rfl) fun vs => ?_
  unfold State.finishLoads
  cases loadedPc vs with
  | none => exact move_next4 (move_writeLoaded (move_writeBack32 rfl _ _) _)
  | some w => exact move_branchExchange (move_writeLoaded (move_writeBack32 rfl _ _) _) _

theorem move_stm (f : F32.LSM) : execF32StmLsm f (b.move s) = onNext (execF32StmLsm f s) b.move := by
  refine move_f32Run (move_ite rfl ?_)
  dsimp only
  refine move_storeList (storeWords_move ..) (by exact fun _ _ => rfl) fun t => ?_
  exact move_next4 (move_writeBack32 rfl _ _)

theorem move_sysr (f : F32.SYS) : execF32SysrSys f (b.move s) = onNext (execF32SysrSys f s) b.move := by
  refine move_f32Run (move_ite rfl ?_)
  have hc : (b.move s).sysCell f = s.sysCell f := rfl
  rw [hc]
  cases s.sysCell f with
  | none => rfl
  | some c => exact move_ite (move_next4 (move_setR rfl _ _)) rfl

theorem move_sysw (f : F32.SYS) : execF32SyswSys f (b.move s) = onNext (execF32SyswSys f s) b.move := by
  refine move_f32Run (move_ite rfl ?_)
  have hc : (b.move s).sysCell f = s.sysCell f := rfl
  rw [hc]
  cases s.sysCell f with
  | none => rfl
  | some c => exact move_ite rfl rfl

theorem move_blxi (f : F32.BLXI) : execF32BlxBlxi f (b.move s) = onNext (execF32BlxBlxi f s) b.move := by
  have h := move_setPc32 (move_setR (b := b) (u := s) rfl 14 (s.ia32 + 4)) (s.targetF f.imm24 + (if f.h then 2 else 0))
  exact congrArg (fun t => Host.Outcome.next { t with mode := .c16 }) h

/-! ### The vector unit -/

theorem move_laneRun (legal : F32.VOP → Bool) (f : F32.VOP) {body : State → State}
    (h : body (b.move s) = b.move (body s)) :
    laneRun legal f (b.move s) body = onNext (laneRun legal f s body) b.move :=
  move_f32Run (move_ite (move_next4 h) rfl)

theorem move_laneCell (legal : F32.VOP → Bool) (op : DWord → DWord → DWord) (f : F32.VOP) :
    laneCell legal op f (b.move s) = onNext (laneCell legal op f s) b.move := move_laneRun legal f rfl

theorem move_laneSat (legal : F32.VOP → Bool) (w : Nat) (op : DWord → DWord → List (Nat × Bool)) (f : F32.VOP) :
    laneSat legal w op f (b.move s) = onNext (laneSat legal w op f s) b.move := move_laneRun legal f rfl

theorem move_laneCompare (legal : F32.VOP → Bool) (test : Nat → Nat → Nat → Bool) (f : F32.VOP) :
    laneCompare legal test f (b.move s) = onNext (laneCompare legal test f s) b.move := move_laneRun legal f rfl

theorem move_laneFloat (cmp : Nat → Nat → Nat → FloatRel × Bool) (test : FloatRel → Bool) (f : F32.VOP) :
    laneFloat cmp test f (b.move s) = onNext (laneFloat cmp test f s) b.move := move_laneRun szFloat f rfl

theorem move_laneFloatFlags (quiet : Bool) (f : F32.VOP) :
    laneFloatFlags quiet f (b.move s) = onNext (laneFloatFlags quiet f s) b.move := move_laneRun szFloatFlags f rfl

theorem move_laneMap (legal : F32.VOP → Bool) (op : Nat → Nat → Nat → Nat) (f : F32.VOP) :
    laneMap legal op f (b.move s) = onNext (laneMap legal op f s) b.move := by
  unfold laneMap
  exact move_laneCell legal _ f

theorem move_laneWiden (top : Bool) (f : F32.VOP) :
    laneWiden top f (b.move s) = onNext (laneWiden top f s) b.move := by
  unfold laneWiden
  exact move_laneCell szWiden _ f

theorem move_laneSatMap (op : Nat → Bool → Nat → Nat → Nat × Bool) (f : F32.VOP) :
    laneSatMap op f (b.move s) = onNext (laneSatMap op f s) b.move := by
  unfold laneSatMap
  exact move_laneSat szAny _ _ f

theorem move_vpack (f : F32.VOP) : execF32VpackVop f (b.move s) = onNext (execF32VpackVop f s) b.move := by
  unfold execF32VpackVop
  exact move_laneCell szNarrow0 _ f

theorem move_vqpack (f : F32.VOP) : execF32VqpackVop f (b.move s) = onNext (execF32VqpackVop f s) b.move := by
  unfold execF32VqpackVop
  exact move_laneSat szNarrow _ _ f

theorem move_laneDot {acc : State → Nat → Nat} (f : F32.VOP) (h : acc (b.move s) = acc s) :
    laneDot acc f (b.move s) = onNext (laneDot acc f s) b.move := by
  unfold laneDot
  rw [h]
  exact move_laneCell szWiden _ f

theorem move_vmrs (f : F32.VCTL) : execF32VmrsVctl f (b.move s) = onNext (execF32VmrsVctl f s) b.move := by
  refine move_f32Run (move_ite rfl ?_)
  have hv : (b.move s).vstat.readControl f.vcn = s.vstat.readControl f.vcn := rfl
  rw [hv]
  cases s.vstat.readControl f.vcn with
  | none => rfl
  | some v => exact move_next4 (move_setR rfl _ _)

theorem move_vmsr (f : F32.VCTL) : execF32VmsrVctl f (b.move s) = onNext (execF32VmsrVctl f s) b.move := by
  refine move_f32Run (move_ite rfl ?_)
  have hv : (b.move s).vstat.writeControl (b.move s).priv f.vcn ((b.move s).rF f.rt) =
    s.vstat.writeControl s.priv f.vcn (s.rF f.rt) := rfl
  rw [hv]
  cases s.vstat.writeControl s.priv f.vcn (s.rF f.rt) with
  | none => rfl
  | some v => rfl

theorem move_vldr (f : F32.VLS) : execF32VldrVls f (b.move s) = onNext (execF32VldrVls f s) b.move := by
  refine move_f32Run (move_ite rfl ?_)
  dsimp only
  refine move_load (load_move ..) (by exact fun _ => rfl) fun v => ?_
  exact move_next4 (move_writeBack32 (by rfl) _ _)

theorem move_vstr (f : F32.VLS) : execF32VstrVls f (b.move s) = onNext (execF32VstrVls f s) b.move := by
  refine move_f32Run (move_ite rfl ?_)
  dsimp only
  refine move_store (store_move ..) (by exact fun _ => rfl) fun t => ?_
  exact move_next4 (move_writeBack32 rfl _ _)

/-! ### C16 -/

theorem move_resultC (h : u' = b.move u) (rd : Fin 16) (v : Word) : u'.resultC rd v = b.move (u.resultC rd v) :=
  move_finish2 (move_setR h rd v)

theorem move_c16Shift {rd : Fin 8} {op : State → Shifted} (h : op (b.move s) = op s) :
    c16Shift rd op (b.move s) = onNext (c16Shift rd op s) b.move := by
  refine move_c16Run rfl ?_
  dsimp only
  rw [h]
  exact move_resultC (move_withFlagsS rfl _) _ _

theorem move_c16Logical {rd : Fin 8} {op : State → Word} (h : op (b.move s) = op s) :
    c16Logical rd op (b.move s) = onNext (c16Logical rd op s) b.move := by
  refine move_c16Run rfl ?_
  rw [h]
  exact move_resultC (move_withFlagsS rfl _) _ _

theorem move_c16Arith {rd : Fin 8} {op : State → Sum 32} (h : op (b.move s) = op s) :
    c16Arith rd op (b.move s) = onNext (c16Arith rd op s) b.move := by
  refine move_c16Run rfl ?_
  dsimp only
  rw [h]
  exact move_resultC (move_withFlagsS rfl _) _ _

theorem move_c16Compare {legal : State → Bool} {op : State → Sum 32} (hl : legal (b.move s) = legal s)
    (h : op (b.move s) = op s) :
    c16Compare legal op (b.move s) = onNext (c16Compare legal op s) b.move := by
  refine move_c16Run hl ?_
  dsimp only
  rw [h]
  rfl

theorem move_c16Move {rd : Fin 16} {op : State → Word} (h : op (b.move s) = op s) :
    c16Move rd op (b.move s) = onNext (c16Move rd op s) b.move := by
  refine move_c16Run rfl ?_
  rw [h]
  exact move_resultC rfl _ _

theorem move_c16High {d : Fin 16} {op : State → Word} (h : op (b.move s) = op s) :
    c16High d op (b.move s) = onNext (c16High d op s) b.move := by
  refine move_c16Run rfl ?_
  rw [h]
  exact move_ite (move_branchC rfl _) (move_resultC rfl _ _)

theorem move_c16Load {rd : Fin 8} {addr : State → Word} {size : Nat} {extend : Nat → Word}
    (h : addr (b.move s) = addr s) :
    c16Load rd addr size extend (b.move s) = onNext (c16Load rd addr size extend s) b.move := by
  refine move_c16Run rfl ?_
  rw [h]
  exact move_load (load_move ..) (by exact fun _ => rfl) fun v => move_resultC rfl _ _

theorem move_c16Store {rd : Fin 8} {addr : State → Word} {size : Nat} (h : addr (b.move s) = addr s) :
    c16Store rd addr size (b.move s) = onNext (c16Store rd addr size s) b.move := by
  refine move_c16Run rfl ?_
  rw [h]
  exact move_store (store_move ..) (by exact fun _ => rfl) fun t => rfl

theorem move_c16StoreMultiple (list : BitVec 16) (rn : Fin 16) (p u : Bool) :
    c16StoreMultiple list rn p u (b.move s) = onNext (c16StoreMultiple list rn p u s) b.move := by
  refine move_c16Run rfl ?_
  dsimp only
  refine move_storeList (storeWords_move ..) (by exact fun _ _ => rfl) fun t => ?_
  exact move_finish2 (move_setR rfl _ _)

theorem move_c16LoadMultiple (list : BitVec 16) (rn : Fin 16) :
    c16LoadMultiple list rn (b.move s) = onNext (c16LoadMultiple list rn s) b.move := by
  refine move_c16Run rfl ?_
  dsimp only
  refine move_loadList (loadWords_move ..) (by exact fun _ => rfl) fun vs => ?_
  cases loadedPc vs with
  | none => exact move_finish2 (move_writeLoaded (move_setR rfl _ _) _)
  | some w => exact move_advanceIt (move_branchExchange (move_writeLoaded (move_setR rfl _ _) _) _)

theorem move_blxC (f : C16.BL2X) : execC16BlxBl2 f (b.move s) = onNext (execC16BlxBl2 f s) b.move := by
  refine move_c16Run rfl ?_
  have h := move_setPc32 (move_setR (b := b) (u := s) rfl 14 s.linkC)
    ((s.rC 14 + (f.imm10.setWidth 32 <<< 2)) &&& ~~~3#32)
  exact congrArg (fun t => State.advanceIt { t with mode := .f32 }) h

/-! ### W64 -/

theorem move_w64Write (rd : Fin 32) (v : DWord) :
    w64Write rd v (b.move s) = onNext (w64Write rd v s) b.move :=
  congrArg Host.Outcome.next (move_nextW (move_setX rfl _ _))

theorem move_w64WriteFlags (rd : Fin 32) (r : DWord × Flags) :
    w64WriteFlags rd r (b.move s) = onNext (w64WriteFlags rd r s) b.move :=
  congrArg Host.Outcome.next (move_nextW (move_setX (by rfl) _ _))

theorem move_w64Relative (h : u' = b.move u) (taken : Bool) (off : DWord) :
    w64Relative taken off u' = onNext (w64Relative taken off u) b.move := by
  subst h
  exact congrArg Host.Outcome.next (move_ite rfl rfl)

theorem move_w64Load (k : Nat) (extend : Nat → DWord) (f : W64.LS) :
    w64Load k extend f (b.move s) = onNext (w64Load k extend f s) b.move := by
  refine congrArg Host.Outcome.next ?_
  refine move_load (r := s.load .wide s.priv (w64Addr k f s).address (2 ^ k)) rfl (by exact fun _ => rfl) fun v => ?_
  exact move_nextW (move_setX (move_writeBackX rfl _ _) _ _)

theorem move_w64Store (k : Nat) (f : W64.LS) :
    w64Store k f (b.move s) = onNext (w64Store k f s) b.move := by
  refine congrArg Host.Outcome.next ?_
  refine move_store (store_move ..) (by exact fun _ => rfl) fun t => ?_
  exact move_nextW (move_writeBackX rfl _ _)

theorem move_w64Literal (size : Nat) (extend : Nat → DWord) (f : W64.LIT) :
    w64Literal size extend f (b.move s) = onNext (w64Literal size extend f s) b.move := by
  refine congrArg Host.Outcome.next ?_
  refine move_load (load_move ..) (by exact fun _ => rfl) fun v => ?_
  exact move_nextW (move_setX rfl _ _)

theorem move_stp (f : W64.LSP) : execW64StpLsp f (b.move s) = onNext (execW64StpLsp f s) b.move := by
  refine congrArg Host.Outcome.next ?_
  refine move_store (store_move ..) (by exact fun _ => rfl) fun t => ?_
  refine move_store (store_move ..) (by exact fun _ => rfl) fun u => ?_
  exact move_nextW (move_writeBackX rfl _ _)

theorem move_ldp (f : W64.LSP) : execW64LdpLsp f (b.move s) = onNext (execW64LdpLsp f s) b.move := by
  refine congrArg Host.Outcome.next ?_
  refine move_load (load_move ..) (by exact fun _ => rfl) fun v => ?_
  refine move_load (load_move ..) (by exact fun _ => rfl) fun w => ?_
  exact move_nextW (move_setX (move_setX (move_writeBackX rfl _ _) _ _) _ _)

/-! ### Every instruction -/

theorem exec_move (i : Instr) (s : State) : exec i (b.move s) = onNext (exec i s) b.move := by
  cases i with
  | f32And f | f32Eor f | f32Sub f | f32Rsb f | f32Add f | f32Adc f | f32Sbc f | f32Rsc f | f32Orr f | f32Mov f
  | f32Bic f | f32Mvn f =>
    dsimp only [exec]
    exact move_dataProcessing ..
  | f32Tst f | f32Teq f | f32Cmp f | f32Cmn f =>
    dsimp only [exec]
    exact move_dataCompare ..
  | f32MulMul f | f32MlaMul f =>
    dsimp only [exec]
    exact move_f32Run (move_ite rfl (move_mulResult ..))
  | f32UmullMull f | f32UmlalMull f | f32SmullMull f | f32SmlalMull f =>
    dsimp only [exec]
    exact move_multiplyLong ..
  | f32SwpSwp f | f32SwpbSwp f =>
    dsimp only [exec]
    exact move_swap ..
  | f32MrsMisc f =>
    dsimp only [exec]
    exact move_f32Run (move_ite rfl (move_next4 (move_setR rfl _ _)))
  | f32MsrMisc f | f32MsrMsri f =>
    dsimp only [exec]
    exact move_f32Run (move_ite rfl (move_writeSR ..))
  | f32BxMisc f =>
    dsimp only [exec]
    exact move_f32Run (move_branchExchange rfl _)
  | f32BlxMisc f =>
    dsimp only [exec]
    exact move_f32Run (move_ite rfl (move_branchExchange (move_setR rfl _ _) _))
  | f32QaddSat f | f32QsubSat f | f32QdaddSat f | f32QdsubSat f =>
    dsimp only [exec]
    exact move_saturating ..
  | f32StrhLshi f | f32StrhLshr f | f32StrLsi f | f32StrLsr f | f32StrtLsi f | f32StrtLsr f | f32StrbLsi f
  | f32StrbLsr f | f32StrbtLsi f | f32StrbtLsr f =>
    dsimp only [exec]
    exact move_f32Run (move_storeSingle ..)
  | f32LdrdLshi f | f32LdrdLshr f =>
    dsimp only [exec]
    exact move_f32Run (move_loadDouble ..)
  | f32StrdLshi f | f32StrdLshr f =>
    dsimp only [exec]
    exact move_f32Run (move_storeDouble ..)
  | f32LdrhLshi f | f32LdrhLshr f | f32LdrsbLshi f | f32LdrsbLshr f | f32LdrshLshi f | f32LdrshLshr f
  | f32LdrLsi f | f32LdrLsr f | f32LdrtLsi f | f32LdrtLsr f | f32LdrbLsi f | f32LdrbLsr f | f32LdrbtLsi f
  | f32LdrbtLsr f =>
    dsimp only [exec]
    exact move_f32Run (move_loadSingle ..)
  | f32StmLsm f =>
    dsimp only [exec]
    exact move_stm f
  | f32LdmLsm f =>
    dsimp only [exec]
    exact move_ldm f
  | f32BBr f =>
    dsimp only [exec]
    exact move_f32Run rfl
  | f32BlBr f =>
    dsimp only [exec]
    exact move_f32Run (move_setPc32 (move_setR rfl _ _) _)
  | f32BlxBlxi f =>
    dsimp only [exec]
    exact move_blxi f
  | f32VaddVop f | f32VsubVop f | f32VshrVop f | f32VrshrVop f | f32VmulhVop f | f32VrmulhVop f =>
    dsimp only [exec]
    exact move_laneMap ..
  | f32VqaddVop f | f32VqsubVop f =>
    dsimp only [exec]
    exact move_laneSatMap ..
  | f32VmullbVop f | f32VmulltVop f =>
    dsimp only [exec]
    exact move_laneWiden ..
  | f32VdotVop f | f32VdotaVop f =>
    dsimp only [exec]
    exact move_laneDot f rfl
  | f32VpackVop f =>
    dsimp only [exec]
    exact move_vpack f
  | f32VqpackVop f =>
    dsimp only [exec]
    exact move_vqpack f
  | f32VunpkbVop f | f32VunpktVop f | f32VzipbVop f | f32VziptVop f | f32VandVop f | f32VorrVop f
  | f32VeorVop f =>
    dsimp only [exec]
    exact move_laneCell ..
  | f32VceqVop f | f32VcgtVop f | f32VcgeVop f =>
    dsimp only [exec]
    exact move_laneCompare ..
  | f32VfceqVop f | f32VfcgeVop f | f32VfcgtVop f | f32VfacgeVop f | f32VfacgtVop f =>
    dsimp only [exec]
    exact move_laneFloat ..
  | f32VfcmpVop f | f32VfcmpeVop f =>
    dsimp only [exec]
    exact move_laneFloatFlags ..
  | f32VmovtvVxfer f =>
    dsimp only [exec]
    exact move_f32Run (move_ite rfl rfl)
  | f32VmovfvVxfer f =>
    dsimp only [exec]
    exact move_f32Run (move_ite rfl (move_next4 (move_setR (move_setR rfl _ _) _ _)))
  | f32VmsrVctl f =>
    dsimp only [exec]
    exact move_vmsr f
  | f32VmrsVctl f =>
    dsimp only [exec]
    exact move_vmrs f
  | f32VstrVls f =>
    dsimp only [exec]
    exact move_vstr f
  | f32VldrVls f =>
    dsimp only [exec]
    exact move_vldr f
  | f32SyswSys f =>
    dsimp only [exec]
    exact move_sysw f
  | f32SysrSys f =>
    dsimp only [exec]
    exact move_sysr f
  | c16LslsShi f | c16LsrsShi f | c16AsrsShi f | c16LslsAlu f | c16LsrsAlu f | c16AsrsAlu f | c16RorsAlu f =>
    dsimp only [exec]
    exact move_c16Shift rfl
  | c16AddsAs3 f | c16SubsAs3 f | c16AddsAs3i f | c16SubsAs3i f | c16AddsI8 f | c16SubsI8 f | c16AdcsAlu f
  | c16SbcsAlu f | c16NegsAlu f =>
    dsimp only [exec]
    exact move_c16Arith rfl
  | c16MovsI8 f | c16AndsAlu f | c16EorsAlu f | c16OrrsAlu f | c16MulsAlu f | c16BicsAlu f | c16MvnsAlu f =>
    dsimp only [exec]
    exact move_c16Logical rfl
  | c16CmpI8 f | c16CmpAlu f | c16CmnAlu f | c16CmpHi f =>
    dsimp only [exec]
    exact move_c16Compare rfl rfl
  | c16TstAlu f | c16NopHint | c16ItIt f | c16BB f =>
    dsimp only [exec]
    exact move_c16Run rfl rfl
  | c16AddHi f | c16MovHi f =>
    dsimp only [exec]
    exact move_c16High rfl
  | c16BxBx f =>
    dsimp only [exec]
    exact move_c16Run rfl (move_advanceIt (move_branchExchange rfl _))
  | c16BlxBx f =>
    dsimp only [exec]
    exact move_c16Run rfl (move_advanceIt (move_branchExchange (move_setR rfl _ _) _))
  | c16LdrLit f | c16LdrsbLsr f | c16LdrLsr f | c16LdrhLsr f | c16LdrbLsr f | c16LdrshLsr f | c16LdrLsi f
  | c16LdrbLsi f | c16LdrhLsi f | c16LdrSpr f =>
    dsimp only [exec]
    exact move_c16Load rfl
  | c16StrLsr f | c16StrhLsr f | c16StrbLsr f | c16StrLsi f | c16StrbLsi f | c16StrhLsi f | c16StrSpr f =>
    dsimp only [exec]
    exact move_c16Store rfl
  | c16AdrAdr f | c16AddAdr f | c16AddSpa f | c16SubSpa f =>
    dsimp only [exec]
    exact move_c16Move rfl
  | c16PushPp f | c16StmiaLsm f =>
    dsimp only [exec]
    exact move_c16StoreMultiple ..
  | c16PopPp f | c16LdmiaLsm f =>
    dsimp only [exec]
    exact move_c16LoadMultiple ..
  | c16BBc f =>
    dsimp only [exec]
    exact move_c16Run rfl (move_ite rfl rfl)
  | c16BlxBl2 f =>
    dsimp only [exec]
    exact move_blxC f
  | c16BlBl1 f =>
    dsimp only [exec]
    exact congrArg Host.Outcome.next (move_ite (move_next2 (move_setR rfl _ _)) rfl)
  | c16BlBl2 f =>
    dsimp only [exec]
    exact move_c16Run rfl (move_branchC (move_setR rfl _ _) _)
  | w64AddAsi f | w64SubAsi f =>
    dsimp only [exec]
    exact congrArg Host.Outcome.next (move_nextW (move_setXsp rfl _ _))
  | w64AddsAsi f | w64SubsAsi f | w64AddsAsr f | w64SubsAsr f | w64AndsLogr f | w64BicsLogr f =>
    dsimp only [exec]
    exact move_w64WriteFlags ..
  | w64AddAsr f | w64SubAsr f | w64AndLogr f | w64BicLogr f | w64OrrLogr f | w64OrnLogr f | w64EorLogr f
  | w64EonLogr f | w64MovnMovw f | w64MovzMovw f | w64MovkMovw f | w64AdrAdr f | w64AdrpAdr f | w64CselCsel f
  | w64CsincCsel f | w64CsinvCsel f | w64CsnegCsel f | w64UdivDp2 f | w64SdivDp2 f | w64LslvDp2 f
  | w64LsrvDp2 f | w64AsrvDp2 f | w64RorvDp2 f | w64MaddDp3 f | w64MsubDp3 f | w64SmaddlDp3 f | w64SmsublDp3 f
  | w64SmulhDp3 f | w64UmaddlDp3 f | w64UmsublDp3 f | w64UmulhDp3 f | w64MrsSys f =>
    dsimp only [exec]
    exact move_w64Write ..
  | w64BBi f | w64BcondBc f | w64CbzCb f | w64CbnzCb f | w64TbzTb f | w64TbnzTb f =>
    dsimp only [exec]
    exact move_w64Relative rfl _ _
  | w64BlBi f =>
    dsimp only [exec]
    exact move_w64Relative (move_setX rfl _ _) _ _
  | w64BrBreg f | w64RetBreg f | w64NopSys | w64MsrSys f =>
    dsimp only [exec]
    exact rfl
  | w64BlrBreg f =>
    dsimp only [exec]
    exact congrArg Host.Outcome.next (move_branchW (move_setX rfl _ _) _)
  | w64Strb f | w64Strh f | w64Strw f | w64Strx f =>
    dsimp only [exec]
    exact move_w64Store ..
  | w64Ldrb f | w64Ldrsb f | w64Ldrsbw f | w64Ldrh f | w64Ldrsh f | w64Ldrshw f | w64Ldrw f | w64Ldrsw f
  | w64Ldrx f =>
    dsimp only [exec]
    exact move_w64Load ..
  | w64LdrwLit f | w64LdrxLit f | w64LdrswLit f =>
    dsimp only [exec]
    exact move_w64Literal ..
  | w64StpLsp f =>
    dsimp only [exec]
    exact move_stp f
  | w64LdpLsp f =>
    dsimp only [exec]
    exact move_ldp f

/-! ### The step -/

/-- A step without the block bookkeeping. -/
def State.runBare (s : State) : Host.Outcome State Fault Refusal :=
  match s.fetch with
  | .debug => .next s.debug
  | .abort => .next s.fetchAbort
  | .word w =>
    match decodeWord s.mode w with
    | .ok i => exec i s
    | .error _ => .next (s.unclassified w)

theorem onNext_move_move (b b' : BlockPlace) (o : Host.Outcome State Fault Refusal) :
    onNext (onNext o b'.move) b.move = onNext o b.move := by cases o <;> rfl

theorem move_accountFrom (b : BlockPlace) (s : State) (q : Item) (t : State) :
    b.move (s.accountFrom q t) = b.move t := by
  unfold State.accountFrom State.account
  split
  · rfl
  · split
    · rfl
    · split
      · rfl
      · dsimp only
        split <;> rfl

theorem onNext_accountFrom_move (b : BlockPlace) (s : State) (q : Item) (o : Host.Outcome State Fault Refusal) :
    onNext (onNext o (s.accountFrom q)) b.move = onNext o b.move := by
  cases o with
  | next t => exact congrArg Host.Outcome.next (move_accountFrom b s q t)
  | fault | refused => rfl

theorem unclassified_move (s : State) (w : Nat) : (b.move s).unclassified w = b.move (s.unclassified w) := by
  have hg : (b.move s).guardUnclassified w = s.guardUnclassified w := rfl
  rw [State.unclassified, State.unclassified, hg]
  refine move_ite ?_ rfl
  obtain ⟨r, x, sp, pc, flags, mode, _⟩ := s
  cases mode <;> rfl

theorem runBare_move (b' : BlockPlace) (s : State) :
    onNext (b'.move s).runBare b.move = onNext s.runBare b.move := by
  have hf : (b'.move s).fetch = s.fetch := rfl
  have hm : (b'.move s).mode = s.mode := rfl
  unfold State.runBare
  rw [hf, hm]
  split
  · rfl
  · rfl
  · split
    · rw [exec_move, onNext_move_move]
    · rw [unclassified_move]
      rfl

/-- The place that differs from that of `s` in the open context alone. -/
def State.placeWith (s : State) (c : Context) : BlockPlace :=
  ⟨some c, s.lastExit, s.cfg.pageSize, s.cfg.maxBlockInsns, s.cfg.linkPolicy, s.env.singleStep⟩

theorem placeWith_move (s : State) (c : Context) : (s.placeWith c).move s = { s with ctx := some c } := rfl

/-- The bookkeeping around an instruction is invisible. -/
theorem runOne_move (b : BlockPlace) (s : State) : onNext s.openBlock.runOne b.move = onNext s.runBare b.move := by
  have hraise (cause : Cause) (q : Item) :
      b.move (s.openBlock.accountFrom q (s.openBlock.raise cause none)) = b.move (s.raise cause none) := by
    rw [move_accountFrom, State.openBlock_eq]
    rfl
  rw [State.runOne, State.runBare, State.fetch_openBlock]
  cases s.fetch with
  | debug => exact congrArg Host.Outcome.next (hraise .debug _)
  | abort => exact congrArg Host.Outcome.next (hraise .fetchAbort _)
  | word w =>
    dsimp only
    rw [State.runWord, State.mode_openBlock]
    cases decodeWord s.mode w with
    | ok i =>
      obtain ⟨c, hc⟩ := exists_enterGuard_openBlock s (itemOf i s.openBlock)
      show onNext (onNext (exec i (s.openBlock.enterGuard (itemOf i s.openBlock))) _) _ = _
      rw [onNext_accountFrom_move, hc, ← placeWith_move, exec_move, onNext_move_move]
    | error e =>
      obtain ⟨c, hc⟩ := exists_enterGuard_openBlock s (Item.unclassified s.openBlock (s.openBlock.guardUnclassified w))
      show Host.Outcome.next (b.move (s.openBlock.runUnclassified w)) = _
      rw [State.runUnclassified, move_accountFrom, hc, ← placeWith_move, unclassified_move]
      rfl

theorem step_move (b b' : BlockPlace) (s : State) : onNext (step (b'.move s)) b.move = onNext (step s) b.move := by
  cases hr : s.raised with
  | some r =>
    have hr' : (b'.move s).raised = some r := hr
    rw [step, step, stepWith, stepWith, hr, hr']
    rfl
  | none =>
    rw [step_eq_runOne hr, step_eq_runOne (s := b'.move s) hr, runOne_move, runOne_move, runBare_move]

/-- Settles O5: a move to another place in the blocks commutes with every instruction and with the bookkeeping. -/
theorem blocksAreInvisible : Obligations.BlocksAreInvisible := by
  refine ⟨fun s c e page max l single =>
    step_move ⟨none, none, 4, 1, .never, false⟩ ⟨c, e, page, max, l, single⟩ s, fun s i hr hb ha hi => ?_⟩
  obtain ⟨c, hc⟩ := exists_enterGuard_openBlock s (itemOf i s.openBlock)
  obtain ⟨t, ht, -⟩ := exec_answers i s
  obtain ⟨⟨-, -, hcfg, henv, -⟩, -⟩ := stateWriters i s t ht
  rw [stepRunsDecodedInstruction s i hr hb ha hi, onNext_accountFrom_arch, hc, ← placeWith_move, exec_move, ht]
  refine congrArg Host.Outcome.next ?_
  rw [State.placeWith, ← hcfg, ← henv]
  rfl

end Sys2Proof.Machine
end

section
/-! PROOFS. F32 data processing, multiplies, saturating arithmetic and the status register
(43_f32_data_processing.md). -/

namespace Sys2Proof.Machine

/-! ### What the opcodes compute -/

section
variable {f : F32.DP} {s : State} {alu : Alu} {res : Word}

/-- The value of an opcode on the operands of an instruction. -/
def aluOf (alu : Alu) (s : State) (rn : Fin 16) (o : F32.Op2) : AluOut := alu (s.rF rn) (s.op2 o).value s.flags.c

theorem dataProcessing_low {fl : Flags} (hc : s.passes f.cond) (hclear : op2Clear f.op2 f.rn f.rd) (hrd : f.rd ≠ 15)
    (hres : (aluOf alu s f.rn f.op2).res = res)
    (hfl : (aluOf alu s f.rn f.op2).flags s.flags (s.op2 f.op2).carry = fl) :
    dataProcessing alu f s =
      .next (State.setR { s with flags := if f.s then fl else s.flags } f.rd res).next4 := by
  have hlegal : ¬ (op2Uses15 f.op2 f.rn f.rd = true ∨ f.s = true ∧ f.rd = 15) := by
    rw [op2Uses15_eq_false.2 hclear]
    rintro (h | h)
    · cases h
    · exact hrd h.2
  rw [dataProcessing_pass hc, ← hres, ← hfl]
  dsimp only
  rw [if_neg hlegal, if_neg hrd]
  rfl

theorem dataProcessing_pc (hc : s.passes f.cond) (hclear : op2Clear f.op2 f.rn f.rd) (hrd : f.rd = 15)
    (hs : f.s = false) (hres : (aluOf alu s f.rn f.op2).res = res) :
    dataProcessing alu f s = .next { s with pc := BitVec.ofNat 64 (res.toNat / 4 * 4) } := by
  have hlegal : ¬ (op2Uses15 f.op2 f.rn f.rd = true ∨ f.s = true ∧ f.rd = 15) := by
    rw [op2Uses15_eq_false.2 hclear, hs]
    rintro (h | ⟨h, -⟩) <;> cases h
  have htarget : (res &&& ~~~3#32).setWidth 64 = BitVec.ofNat 64 (res.toNat / 4 * 4) := by
    rw [and_not_3, setWidth_eq_ofNat, BitVec.toNat_ofNat, Nat.mod_eq_of_lt (by omega)]
  rw [dataProcessing_pass hc, ← htarget, ← hres]
  dsimp only
  rw [if_neg hlegal, if_pos hrd, hs]
  rfl

theorem dataProcessing_undef (hc : s.passes f.cond) (h : ¬ op2Clear f.op2 f.rn f.rd ∨ f.s = true ∧ f.rd = 15) :
    dataProcessing alu f s = .next s.undef := by
  rw [dataProcessing_pass hc]
  dsimp only
  rw [if_pos (h.imp_left fun h => by rwa [← op2Uses15_eq_false, Bool.not_eq_false] at h)]

end

section
variable {f : F32.DPC} {s : State} {alu : Alu}

theorem dataCompare_clear {fl : Flags} (hc : s.passes f.cond) (hclear : op2Clear f.op2 f.rn f.rd)
    (hfl : (aluOf alu s f.rn f.op2).flags s.flags (s.op2 f.op2).carry = fl) :
    dataCompare alu f s = .next (State.next4 { s with flags := fl }) := by
  rw [dataCompare, f32Run_pass hc, if_neg (by rw [op2Uses15_eq_false.2 hclear]; nofun), ← hfl]
  rfl

theorem dataCompare_undef (hc : s.passes f.cond) (h : ¬ op2Clear f.op2 f.rn f.rd) :
    dataCompare alu f s = .next s.undef := by
  rw [← op2Uses15_eq_false, Bool.not_eq_false] at h
  rw [dataCompare, f32Run_pass hc, if_pos h]

end

section
variable (s : State) (rn : Fin 16) (o : F32.Op2)

theorem res_add : (aluOf aluAdd s rn o).res = sumBits (s.rF rn) (s.op2 o).value 0 := addWithCarry_res _ _ false

theorem res_adc : (aluOf aluAdc s rn o).res = sumBits (s.rF rn) (s.op2 o).value s.flags.c.toNat :=
  addWithCarry_res _ _ s.flags.c

theorem res_sub : (aluOf aluSub s rn o).res = diffBits (s.rF rn) (s.op2 o).value 0 := addWithCarry_not_res _ _ true

theorem res_sbc : (aluOf aluSbc s rn o).res = diffBits (s.rF rn) (s.op2 o).value (1 - s.flags.c.toNat) :=
  addWithCarry_not_res _ _ s.flags.c

theorem res_rsb : (aluOf aluRsb s rn o).res = diffBits (s.op2 o).value (s.rF rn) 0 := addWithCarry_not_res _ _ true

theorem res_rsc : (aluOf aluRsc s rn o).res = diffBits (s.op2 o).value (s.rF rn) (1 - s.flags.c.toNat) :=
  addWithCarry_not_res _ _ s.flags.c

theorem flags_add (f : Flags) (c : Bool) : (aluOf aluAdd s rn o).flags f c = sumFlags f (s.rF rn) (s.op2 o).value 0 :=
  arithmetic_sum (by decide) f _ _ false

theorem flags_adc (f : Flags) (c : Bool) :
    (aluOf aluAdc s rn o).flags f c = sumFlags f (s.rF rn) (s.op2 o).value s.flags.c.toNat :=
  arithmetic_sum (by decide) f _ _ s.flags.c

theorem flags_sub (f : Flags) (c : Bool) : (aluOf aluSub s rn o).flags f c = diffFlags f (s.rF rn) (s.op2 o).value 0 :=
  arithmetic_diff (by decide) f _ _ true

theorem flags_sbc (f : Flags) (c : Bool) :
    (aluOf aluSbc s rn o).flags f c = diffFlags f (s.rF rn) (s.op2 o).value (1 - s.flags.c.toNat) :=
  arithmetic_diff (by decide) f _ _ s.flags.c

theorem flags_rsb (f : Flags) (c : Bool) : (aluOf aluRsb s rn o).flags f c = diffFlags f (s.op2 o).value (s.rF rn) 0 :=
  arithmetic_diff (by decide) f _ _ true

theorem flags_rsc (f : Flags) (c : Bool) :
    (aluOf aluRsc s rn o).flags f c = diffFlags f (s.op2 o).value (s.rF rn) (1 - s.flags.c.toNat) :=
  arithmetic_diff (by decide) f _ _ s.flags.c

end

/-! ### The obligations about the sixteen opcodes -/

/-- Settles O26: six logical opcodes of one shape. -/
theorem logicalOpcodes : Obligations.LogicalOpcodes := by
  intro f s hc hclear hrd
  have hout {alu : Alu} {res : Word} (h : aluOf alu s f.rn f.op2 = .logical res) :
      dataProcessing alu f s = .next (State.setR
        { s with flags := if f.s then bitFlags s.flags res (s.op2 f.op2).carry else s.flags } f.rd res).next4 :=
    dataProcessing_low hc hclear hrd (by rw [h]; rfl) (by rw [h]; exact logical_eq ..)
  exact ⟨hout rfl, hout rfl, hout rfl, hout rfl, hout rfl, hout rfl⟩

/-- Settles O27: six sums and differences of one shape. -/
theorem arithmeticOpcodes : Obligations.ArithmeticOpcodes := fun _ s hc hclear hrd =>
  ⟨dataProcessing_low hc hclear hrd (res_add s ..) (flags_add s ..),
    dataProcessing_low hc hclear hrd (res_adc s ..) (flags_adc s ..),
    dataProcessing_low hc hclear hrd (res_sub s ..) (flags_sub s ..),
    dataProcessing_low hc hclear hrd (res_sbc s ..) (flags_sbc s ..),
    dataProcessing_low hc hclear hrd (res_rsb s ..) (flags_rsb s ..),
    dataProcessing_low hc hclear hrd (res_rsc s ..) (flags_rsc s ..)⟩

/-- Settles O29: two logical results and two arithmetic ones, flags only. -/
theorem compareOpcodes : Obligations.CompareOpcodes := fun _ s hc hclear =>
  ⟨dataCompare_clear hc hclear (logical_eq ..), dataCompare_clear hc hclear (logical_eq ..),
    dataCompare_clear hc hclear (flags_sub s ..), dataCompare_clear hc hclear (flags_add s ..)⟩

/-- Settles O28: the shape with `Rd` 15, and the fields that are 15. -/
theorem dataProcessingRegister15 : Obligations.DataProcessingRegister15 := by
  refine ⟨fun f s hc hclear hrd hs => ?_, fun op hop f s hc h => ?_, fun op hop f s hc h => ?_⟩
  · have hout {alu : Alu} {res : Word} (h : (aluOf alu s f.rn f.op2).res = res) :
        dataProcessing alu f s = .next { s with pc := BitVec.ofNat 64 (res.toNat / 4 * 4) } :=
      dataProcessing_pc hc hclear hrd hs h
    exact ⟨hout rfl, hout rfl, hout rfl, hout rfl, hout rfl, hout rfl, hout (res_add s ..), hout (res_adc s ..),
      hout (res_sub s ..), hout (res_sbc s ..), hout (res_rsb s ..), hout (res_rsc s ..)⟩
  · have hundef (alu : Alu) : dataProcessing alu f s = .next s.undef := dataProcessing_undef hc h
    simp only [dpWriters, List.mem_cons, List.not_mem_nil, or_false] at hop
    rcases hop with rfl | rfl | rfl | rfl | rfl | rfl | rfl | rfl | rfl | rfl | rfl | rfl <;> exact hundef _
  · have hundef (alu : Alu) : dataCompare alu f s = .next s.undef := dataCompare_undef hc h
    simp only [dpCompares, List.mem_cons, List.not_mem_nil, or_false] at hop
    rcases hop with rfl | rfl | rfl | rfl <;> exact hundef _

/-! ### Multiplies -/

theorem mulResult_eq (s : State) (b : Bool) (rd : Fin 16) (res : Word) :
    s.mulResult b rd res =
      (State.setR { s with flags := if b then bitFlags s.flags res s.flags.c else s.flags } rd res).next4 := by
  cases b with
  | false => rfl
  | true => rw [State.mulResult, if_pos rfl, if_pos rfl, setNZ_eq]

theorem ofNat_mul_toNat (x y : Word) : BitVec.ofNat 32 (x.toNat * y.toNat) = x * y := by
  rw [BitVec.ofNat_mul, BitVec.ofNat_toNat, BitVec.ofNat_toNat, BitVec.setWidth_eq, BitVec.setWidth_eq]

theorem setWidth_ofInt_64 (p : Int) : (BitVec.ofInt 64 p).setWidth 32 = BitVec.ofInt 32 p := by
  apply BitVec.eq_of_toNat_eq
  rw [BitVec.toNat_setWidth, BitVec.toNat_ofInt, BitVec.toNat_ofInt]
  push_cast
  omega

theorem extractLsb'_ofInt_64 (p : Int) : (BitVec.ofInt 64 p).extractLsb' 32 32 = BitVec.ofInt 32 (p / 2 ^ 32) := by
  apply BitVec.eq_of_toNat_eq
  rw [BitVec.extractLsb'_toNat, BitVec.toNat_ofInt, BitVec.toNat_ofInt, Nat.shiftRight_eq_div_pow]
  push_cast
  omega

theorem toNat_append_word (hi lo : Word) : (hi ++ lo : DWord).toNat = hi.toNat * 2 ^ 32 + lo.toNat := by
  rw [show (hi ++ lo : DWord).toNat = hi.toNat <<< 32 ||| lo.toNat from BitVec.toNat_append ..,
    Nat.shiftLeft_eq, Nat.mul_comm, ← Nat.two_pow_add_eq_or_of_lt lo.isLt]

/-- A long multiply writes the two halves of its exact result. -/
theorem multiplyLong_pass {f : F32.MULL} {s : State} {mul : Word → Word → DWord → DWord} {p : Int}
    (hc : s.passes f.cond)
    (hp : mul (s.rF f.rm) (s.rF f.rs) (s.rF f.rdHi ++ s.rF f.rdLo) = BitVec.ofInt 64 p) :
    multiplyLong mul f s =
      if f.rdHi = 15 ∨ f.rdLo = 15 ∨ f.rs = 15 ∨ f.rm = 15 then .next { s with raised := some ⟨.undef, s.pc, none⟩ }
      else .next ((State.setR
        { s with flags := if f.s then bitFlags s.flags (BitVec.ofInt 64 p) s.flags.c else s.flags }
        f.rdLo (BitVec.ofInt 32 p)).setR f.rdHi (BitVec.ofInt 32 (p / 2 ^ 32))).next4 := by
  rw [multiplyLong, f32Run_pass hc]
  dsimp only
  rw [hp, setWidth_ofInt_64, extractLsb'_ofInt_64, setNZ_eq]
  split
  · rfl
  · cases f.s <;> rfl

/-- Settles O30: the two short and the four long products. -/
theorem multiplies : Obligations.Multiplies := by
  refine ⟨fun f s hc => ?_, fun f s hc => ?_, fun f s hc => ?_⟩
  · show execF32MulMul f s = _
    rw [execF32MulMul, f32Run_pass hc, mulResult_eq, ofNat_mul_toNat]
    split <;> rfl
  · show execF32MlaMul f s = _
    rw [execF32MlaMul, f32Run_pass hc, mulResult_eq, BitVec.ofNat_add, ofNat_mul_toNat, BitVec.ofNat_toNat,
      BitVec.setWidth_eq]
    split <;> rfl
  · dsimp only [exec, execF32UmullMull, execF32UmlalMull, execF32SmullMull, execF32SmlalMull]
    refine ⟨multiplyLong_pass hc ?_, multiplyLong_pass hc ?_, multiplyLong_pass hc rfl, multiplyLong_pass hc ?_⟩
    · rw [← BitVec.ofInt_natCast]
      push_cast
      rfl
    · rw [← BitVec.ofInt_natCast, toNat_append_word]
      push_cast
      rfl
    · rw [toNat_append_word]
      push_cast
      rfl

/-! ### Saturating arithmetic -/

theorem clamp32_eq (v : Int) : clamp32 v = (saturate32 v, !fits32 v) := by
  unfold clamp32 saturate32 fits32
  split
  · rw [decide_eq_false (by omega)]
    exact Prod.ext (by omega) rfl
  · split
    · rw [decide_eq_false (by omega)]
      exact Prod.ext (by omega) rfl
    · rw [decide_eq_true (by omega)]
      exact Prod.ext (by omega) rfl

theorem saturating_pass {f : F32.SAT} {s : State} {op : Int → Int → Int × Bool} {v : Int} {sat : Bool}
    (hc : s.passes f.cond) (h : op (s.rF f.rm).toInt (s.rF f.rn).toInt = (saturate32 v, sat)) :
    saturating op f s =
      if f.rd = 15 ∨ f.rm = 15 ∨ f.rn = 15 then .next { s with raised := some ⟨.undef, s.pc, none⟩ }
      else .next (State.setR { s with flags := { s.flags with q := s.flags.q || sat } } f.rd
        (BitVec.ofInt 32 (saturate32 v))).next4 := by
  rw [saturating, f32Run_pass hc, h]
  split <;> rfl

/-- Settles O31: four compositions of one clamp. -/
theorem saturatingInstructions : Obligations.SaturatingInstructions := by
  intro f s hc
  dsimp only [exec, execF32QaddSat, execF32QsubSat, execF32QdaddSat, execF32QdsubSat]
  exact ⟨saturating_pass hc (clamp32_eq _), saturating_pass hc (clamp32_eq _),
    saturating_pass hc (by simp only [clamp32_eq]), saturating_pass hc (by simp only [clamp32_eq])⟩

/-! ### The status register -/

/-- The view of the flags as a union of their bits. -/
theorem sr_eq {s : State} (hm : s.mode = .f32) :
    s.sr = (if s.flags.n then 0x80000000 else 0) ||| (if s.flags.z then 0x40000000 else 0) |||
      (if s.flags.c then 0x20000000 else 0) ||| (if s.flags.v then 0x10000000 else 0) |||
      (if s.flags.q then 0x08000000 else 0) ||| (if s.priv = .user then 0b10000 else 0b10011) := by
  rw [State.sr, hm]
  generalize s.flags = f
  obtain ⟨n, z, c, v, q⟩ := f
  revert n z c v q
  cases s.priv <;> decide

theorem writeSR_eq (s : State) (fmask : BitVec 4) (v : Word) :
    s.writeSR fmask v = State.next4 { s with flags :=
      if fmask[3] then ⟨v[31], v[30], v[29], v[28], v[27]⟩ else s.flags } := by
  unfold State.writeSR
  split <;> rfl

theorem hintWord_iff (f : F32.MSRI) : hintWord f = true ↔ f.fmask = 0 ∧ f.rot = 0 ∧ f.imm8 ∈ [1, 2, 3, 4] := by
  have himm : ∀ v : BitVec 8, (1 ≤ v.toNat ∧ v.toNat ≤ 4) ↔ v ∈ ([1, 2, 3, 4] : List (BitVec 8)) := by decide
  simp only [hintWord, Bool.and_eq_true, beq_iff_eq, decide_eq_true_eq, himm, and_assoc]

/-- Settles O32: the view of the status register and its masked write. -/
theorem statusRegisterAccess : Obligations.StatusRegisterAccess := by
  refine ⟨fun f s hc hm => ?_, fun f s hc => ?_, fun f s hc => ?_⟩
  · show execF32MrsMisc f s = _
    rw [execF32MrsMisc, f32Run_pass hc, sr_eq hm]
    split <;> rfl
  · show execF32MsrMisc f s = _
    rw [execF32MsrMisc, f32Run_pass hc, writeSR_eq]
    split <;> rfl
  · show execF32MsrMsri f s = _
    rw [execF32MsrMsri, f32Run_pass hc, writeSR_eq]
    by_cases h : hintWord f = true
    · rw [if_pos h, if_pos ((hintWord_iff f).1 h)]
      rfl
    · rw [if_neg h, if_neg fun h' => h ((hintWord_iff f).2 h')]
      rfl

end Sys2Proof.Machine
end

section
/-! PROOFS. The operand functions in integer arithmetic (40_condition_shifter.md section 2, 42_addressing_modes.md section 2)
and a load after a store (20_memory.md). -/

namespace Sys2Proof.Machine

/-! ### Shifts and rotations of a word -/

theorem shiftLeft_eq_ofNat (v : Word) (n : Nat) : v <<< n = BitVec.ofNat 32 (v.toNat * 2 ^ n) := by
  apply BitVec.eq_of_toNat_eq
  rw [BitVec.toNat_shiftLeft, BitVec.toNat_ofNat, Nat.shiftLeft_eq]

theorem ushiftRight_eq_ofNat (v : Word) (n : Nat) : v >>> n = BitVec.ofNat 32 (v.toNat / 2 ^ n) := by
  apply BitVec.eq_of_toNat_eq
  rw [BitVec.toNat_ushiftRight, BitVec.toNat_ofNat, Nat.shiftRight_eq_div_pow,
    Nat.mod_eq_of_lt (Nat.lt_of_le_of_lt (Nat.div_le_self _ _) v.isLt)]

theorem sshiftRight_eq_ofInt (v : Word) (n : Nat) : v.sshiftRight n = BitVec.ofInt 32 (v.toInt / 2 ^ n) := by
  rw [BitVec.sshiftRight, Int.shiftRight_eq_div_pow]
  norm_cast

/-- The bits shifted out on the right come back on the left: a rotation is a sum. -/
theorem rotate_eq_ofNat (v : Word) {n : Nat} (hn : n ≤ 32) :
    (v >>> n) ||| (v <<< (32 - n)) = BitVec.ofNat 32 (v.toNat / 2 ^ n + v.toNat * 2 ^ (32 - n)) := by
  have hpow : 2 ^ 32 = 2 ^ (32 - n) * 2 ^ n := by rw [← pow_add, Nat.sub_add_cancel hn]
  have hlow : v.toNat / 2 ^ n < 2 ^ (32 - n) := Nat.div_lt_of_lt_mul (by
    rw [Nat.mul_comm, ← hpow]
    exact v.isLt)
  have hhigh : v.toNat * 2 ^ (32 - n) % 2 ^ 32 = 2 ^ (32 - n) * (v.toNat % 2 ^ n) := by
    rw [hpow, Nat.mul_comm, Nat.mul_mod_mul_left]
  have hsum : 2 ^ (32 - n) * (v.toNat % 2 ^ n) + v.toNat / 2 ^ n < 2 ^ 32 := by
    have hr : v.toNat % 2 ^ n < 2 ^ n := Nat.mod_lt _ (Nat.two_pow_pos n)
    calc 2 ^ (32 - n) * (v.toNat % 2 ^ n) + v.toNat / 2 ^ n
        < 2 ^ (32 - n) * (v.toNat % 2 ^ n) + 2 ^ (32 - n) := Nat.add_lt_add_left hlow _
      _ = 2 ^ (32 - n) * (v.toNat % 2 ^ n + 1) := (Nat.mul_succ ..).symm
      _ ≤ 2 ^ (32 - n) * 2 ^ n := Nat.mul_le_mul_left _ hr
      _ = 2 ^ 32 := hpow.symm
  apply BitVec.eq_of_toNat_eq
  rw [BitVec.toNat_or, BitVec.toNat_ushiftRight, BitVec.toNat_shiftLeft, BitVec.toNat_ofNat,
    Nat.shiftRight_eq_div_pow, Nat.shiftLeft_eq, hhigh, Nat.or_comm, ← Nat.two_pow_add_eq_or_of_lt hlow,
    Nat.add_comm (v.toNat / 2 ^ n), Nat.add_mod, hhigh, Nat.mod_eq_of_lt (hlow.trans_le ?_), Nat.mod_eq_of_lt hsum]
  exact Nat.pow_le_pow_right (by decide) (Nat.sub_le _ _)

theorem rrx_eq_ofNat (v : Word) (cin : Bool) :
    (v >>> 1) ||| BitVec.ofNat 32 (cin.toNat * 2 ^ 31) = BitVec.ofNat 32 (cin.toNat * 2 ^ 31 + v.toNat / 2) := by
  have hlow : v.toNat / 2 < 2 ^ 31 := by omega
  have hc : cin.toNat ≤ 1 := cin.toNat_le
  apply BitVec.eq_of_toNat_eq
  rw [BitVec.toNat_or, BitVec.toNat_ushiftRight, BitVec.toNat_ofNat, BitVec.toNat_ofNat, Nat.mod_eq_of_lt (by omega),
    Nat.shiftRight_eq_div_pow, pow_one, Nat.or_comm, Nat.mul_comm, ← Nat.two_pow_add_eq_or_of_lt hlow,
    Nat.mod_eq_of_lt (by omega)]

theorem msb_eq_31 (v : Word) : v.msb = v[31] := BitVec.msb_eq_getLsbD_last v

theorem signFill_eq (v : Word) : signFill v = if v[31] then 0xFFFFFFFF else 0 := by
  rw [signFill, msb_eq_31]
  rfl

/-! ### The four kinds in range -/

theorem shiftBy_lsl (v : Word) (n : Nat) : shiftBy .lsl v n = ⟨BitVec.ofNat 32 (v.toNat * 2 ^ n), v.getLsbD (32 - n)⟩ := by
  rw [shiftBy, shiftLeft_eq_ofNat]

theorem shiftBy_lsr (v : Word) (n : Nat) : shiftBy .lsr v n = ⟨BitVec.ofNat 32 (v.toNat / 2 ^ n), v.getLsbD (n - 1)⟩ := by
  rw [shiftBy, ushiftRight_eq_ofNat]

theorem shiftBy_asr (v : Word) (n : Nat) : shiftBy .asr v n = ⟨BitVec.ofInt 32 (v.toInt / 2 ^ n), v.getLsbD (n - 1)⟩ := by
  rw [shiftBy, sshiftRight_eq_ofInt]

theorem shiftBy_ror (v : Word) {n : Nat} (hn : n ≤ 32) :
    shiftBy .ror v n = ⟨BitVec.ofNat 32 (v.toNat / 2 ^ n + v.toNat * 2 ^ (32 - n)), v.getLsbD (n - 1)⟩ := by
  rw [shiftBy, rotate_eq_ofNat v hn]

theorem shiftImm_of_pos {imm5 : BitVec 5} (h : 0 < imm5.toNat) (k : ShiftKind) (v : Word) (cin : Bool) :
    shiftImm k v imm5 cin = shiftBy k v imm5.toNat := by
  unfold shiftImm
  rw [if_neg]
  rintro rfl
  cases h

theorem shiftReg_of_pos {amt : BitVec 8} (h : amt.toNat ≠ 0) (k : ShiftKind) (v : Word) (cin : Bool) :
    shiftReg k v amt cin = match k with
      | .lsl => if amt.toNat < 32 then shiftBy .lsl v amt.toNat else if amt.toNat = 32 then ⟨0, v[0]⟩ else ⟨0, false⟩
      | .lsr => if amt.toNat < 32 then shiftBy .lsr v amt.toNat else if amt.toNat = 32 then ⟨0, v[31]⟩ else ⟨0, false⟩
      | .asr => if amt.toNat < 32 then shiftBy .asr v amt.toNat else ⟨if v[31] then 0xFFFFFFFF else 0, v[31]⟩
      | .ror => if amt.toNat % 32 = 0 then ⟨v, v[31]⟩ else shiftBy .ror v (amt.toNat % 32) := by
  unfold shiftReg
  dsimp only
  rw [if_neg h, signFill_eq, msb_eq_31] <;> (cases k <;> rfl)

/-- Settles O19: each kind by the ranges of its amount. -/
theorem barrelShifter : Obligations.BarrelShifter := by
  refine ⟨fun v imm5 cin => ⟨fun h => ?_, fun h => ?_⟩, fun v amt cin => ?_⟩
  · obtain rfl : imm5 = 0 := BitVec.eq_of_toNat_eq h
    refine ⟨rfl, ?_, ?_, ?_⟩
    · rw [← msb_eq_31]
      rfl
    · rw [← signFill_eq, ← msb_eq_31]
      rfl
    · rw [← rrx_eq_ofNat]
      rfl
  · simp only [shiftImm_of_pos h]
    exact ⟨shiftBy_lsl .., shiftBy_lsr .., shiftBy_asr .., shiftBy_ror v (by omega)⟩
  · refine ⟨fun h k => ?_, fun h => ?_, fun h => ?_, fun h => ?_, fun h => ?_, fun h0 h => ?_, fun h => ?_⟩
    · exact if_pos h
    · simp only [shiftReg_of_pos (show amt.toNat ≠ 0 by omega), if_pos (show amt.toNat < 32 by omega)]
      exact ⟨shiftBy_lsl .., shiftBy_lsr .., shiftBy_asr ..⟩
    · simp only [shiftReg_of_pos (show amt.toNat ≠ 0 by omega), if_neg (show ¬ amt.toNat < 32 by omega), if_pos h]
      exact ⟨trivial, trivial⟩
    · simp only [shiftReg_of_pos (show amt.toNat ≠ 0 by omega), if_neg (show ¬ amt.toNat < 32 by omega),
        if_neg (show ¬ amt.toNat = 32 by omega)]
      exact ⟨trivial, trivial⟩
    · simp only [shiftReg_of_pos (show amt.toNat ≠ 0 by omega), if_neg (show ¬ amt.toNat < 32 by omega)]
    · simp only [shiftReg_of_pos h0, if_pos h]
    · simp only [shiftReg_of_pos (show amt.toNat ≠ 0 by omega), if_neg h]
      exact shiftBy_ror v (by omega)

/-! ### The second operand -/

theorem rotatedImm_value (rot : BitVec 4) (imm8 : BitVec 8) :
    (imm8.setWidth 32 : Word).rotateRight (2 * rot.toNat) =
      BitVec.ofNat 32 (imm8.toNat / 2 ^ (2 * rot.toNat) + imm8.toNat * 2 ^ (32 - 2 * rot.toNat)) := by
  have himm : (imm8.setWidth 32 : Word).toNat = imm8.toNat := by
    rw [BitVec.toNat_setWidth, Nat.mod_eq_of_lt (by omega)]
  have hrot : 2 * rot.toNat < 32 := by omega
  rw [BitVec.rotateRight, Nat.mod_eq_of_lt hrot, BitVec.rotateRightAux, rotate_eq_ofNat _ hrot.le, himm]

/-- Settles O20: the rotated immediate; the register forms are the shifter itself. -/
theorem secondOperand : Obligations.SecondOperand := by
  refine ⟨fun s rot imm8 => ?_, fun s n k rm => rfl, fun s rs rm k hrs hrm => ?_⟩
  · show rotatedImm rot imm8 s.flags.c = _
    rw [rotatedImm, rotatedImm_value, msb_eq_31]
  · have hlow {i : Fin 16} (h : i ≠ 15) : i.val < 15 := by omega
    show shiftReg k (s.rF rm) ((s.rF rs).setWidth 8) s.flags.c = _
    rw [setWidth_eq_ofNat, State.rF, State.rF, State.getR, State.getR, dif_pos (hlow hrs), dif_pos (hlow hrm)]

/-! ### The shared operations -/

theorem advanceIt_eq (it : BitVec 8) :
    advanceIt it = if it.toNat % 8 = 0 then 0 else BitVec.ofNat 8 (it.toNat / 32 * 32 + it.toNat % 32 * 2 % 32) := by
  revert it
  decide

theorem setWidth_ofNat_of_le {v n : Nat} (h : n ≤ v) (hv : v < 2 ^ 32) :
    (BitVec.ofNat 32 n).setWidth 64 = BitVec.ofNat 64 n := by
  rw [setWidth_eq_ofNat, BitVec.toNat_ofNat, Nat.mod_eq_of_lt (by omega)]

/-- Settles O22: the shared operations in integer arithmetic. -/
theorem sharedOperations : Obligations.SharedOperations := by
  refine ⟨fun base n _ => ?_, fun s t => ⟨fun h => ?_, fun h => ?_⟩, fun s => ?_⟩
  · have hbase : multiStart base n false true = base := by simp [multiStart]
    simp only [resolveMultiple_eq, hbase]
    simp [multiStart, multiBase, sub_eq_add_neg, add_assoc, add_comm]
  · rw [State.branchExchange, if_pos h, and_not_1, setWidth_ofNat_of_le (Nat.div_mul_le_self ..) t.isLt]
  · rw [State.branchExchange, if_neg (by rw [h]; nofun), and_not_3,
      setWidth_ofNat_of_le (Nat.div_mul_le_self ..) t.isLt]
  · rw [State.advanceIt, advanceIt_eq]

/-! ### A load after a store -/

theorem Memory.get_store_byteAddr {m : List Host.Cell} (h : Memory.wf m = true) (e : Endian) {bits a n i : Nat}
    (hb : bits ≤ 64) (ha : a < 2 ^ bits) (hn : n ≤ 2 ^ bits) (v : Nat) (hi : i < n) :
    Memory.get (Memory.store m e bits a n v) (Memory.byteAddr e bits a n i) = BitVec.ofNat 8 (v / 256 ^ i) := by
  obtain ⟨hlt, hd⟩ := (Memory.byteAddr_eq_iff e ha hn hi).1 rfl
  rw [Memory.get_store h e hb ha hn v]
  unfold storedOver
  dsimp only
  rw [hd, if_pos]
  · cases e with
    | little => rfl
    | big => rw [show n - 1 - (n - 1 - i) = i by omega]
  · refine ⟨hlt, ?_⟩
    cases e with
    | little => exact hi
    | big => exact (by omega : n - 1 - i < n)

theorem Memory.loadUpTo_of_bytes {m : List Host.Cell} {e : Endian} {bits a n v : Nat}
    (h : ∀ i, i < n → Memory.get m (Memory.byteAddr e bits a n i) = BitVec.ofNat 8 (v / 256 ^ i)) {k : Nat} (hk : k ≤ n) :
    Memory.loadUpTo m e bits a n k = v % 256 ^ k := by
  induction k with
  | zero => rw [Memory.loadUpTo, pow_zero, Nat.mod_one]
  | succ k ih =>
    rw [Memory.loadUpTo, ih (by omega), h k (by omega), BitVec.toNat_ofNat, Nat.mod_pow_succ (b := 256), Nat.mul_comm]

/-- Settles O23: every byte is read back from where the store placed it. -/
theorem loadAfterStore : Obligations.LoadAfterStore := by
  intro s t sp acc a n v hwf hn ha hstore
  have hbits : sp.bits ≤ 64 := by cases sp <;> decide
  have hsize : n ≤ 2 ^ sp.bits := by
    have : 2 ^ 3 ≤ 2 ^ sp.bits := Nat.pow_le_pow_right (by decide) (by cases sp <;> decide)
    omega
  have ht : t = { s with mem := Memory.store s.mem s.cfg.endian sp.bits a.toNat n v } := by
    unfold State.store at hstore
    split at hstore
    · cases hstore
    · cases hstore
      rfl
  obtain ⟨hframe, hkept⟩ := store_frame hstore
  refine ⟨hframe, hkept hwf, ?_, fun hr => ?_⟩
  · rw [ht]
    exact Memory.get_store hwf _ hbits ha hsize v
  · have hbytes : Memory.load t.mem t.cfg.endian sp.bits a.toNat n = v % 256 ^ n := by
      rw [ht]
      exact Memory.loadUpTo_of_bytes
        (fun i hi => Memory.get_store_byteAddr hwf _ hbits ha hsize v hi) le_rfl
    rw [State.load, if_neg (by rw [hr]; nofun), hbytes, show 256 ^ n = 2 ^ (8 * n) by rw [pow_mul]; norm_num]

end Sys2Proof.Machine
end

section
/-! PROOFS. The forms that raise `Undefined` and write nothing else: each shared operation says once when it does. -/

namespace Sys2Proof.Machine

variable {s : State}

/-! ### Lane operations -/

section
variable {f : F32.VOP}

theorem undef_Vadd (hc : s.passes f.cond) (h : ¬ s.lanesOn ∨ szAny0 f = false) :
    exec (.f32VaddVop f) s = .next s.undef := by
  dsimp only [exec, execF32VaddVop, laneMap, laneCell]
  exact laneRun_undef hc h _

theorem undef_Vsub (hc : s.passes f.cond) (h : ¬ s.lanesOn ∨ szAny0 f = false) :
    exec (.f32VsubVop f) s = .next s.undef := by
  dsimp only [exec, execF32VsubVop, laneMap, laneCell]
  exact laneRun_undef hc h _

theorem undef_Vqadd (hc : s.passes f.cond) (h : ¬ s.lanesOn ∨ szAny f = false) :
    exec (.f32VqaddVop f) s = .next s.undef := by
  dsimp only [exec, execF32VqaddVop, laneSatMap, laneSat]
  exact laneRun_undef hc h _

theorem undef_Vqsub (hc : s.passes f.cond) (h : ¬ s.lanesOn ∨ szAny f = false) :
    exec (.f32VqsubVop f) s = .next s.undef := by
  dsimp only [exec, execF32VqsubVop, laneSatMap, laneSat]
  exact laneRun_undef hc h _

theorem undef_Vshr (hc : s.passes f.cond) (h : ¬ s.lanesOn ∨ szAny f = false) :
    exec (.f32VshrVop f) s = .next s.undef := by
  dsimp only [exec, execF32VshrVop, laneMap, laneCell]
  exact laneRun_undef hc h _

theorem undef_Vrshr (hc : s.passes f.cond) (h : ¬ s.lanesOn ∨ szAny f = false) :
    exec (.f32VrshrVop f) s = .next s.undef := by
  dsimp only [exec, execF32VrshrVop, laneMap, laneCell]
  exact laneRun_undef hc h _

theorem undef_Vmullb (hc : s.passes f.cond) (h : ¬ s.lanesOn ∨ szWiden f = false) :
    exec (.f32VmullbVop f) s = .next s.undef := by
  dsimp only [exec, execF32VmullbVop, laneWiden, laneCell]
  exact laneRun_undef hc h _

theorem undef_Vmullt (hc : s.passes f.cond) (h : ¬ s.lanesOn ∨ szWiden f = false) :
    exec (.f32VmulltVop f) s = .next s.undef := by
  dsimp only [exec, execF32VmulltVop, laneWiden, laneCell]
  exact laneRun_undef hc h _

theorem undef_Vdot (hc : s.passes f.cond) (h : ¬ s.lanesOn ∨ szWiden f = false) :
    exec (.f32VdotVop f) s = .next s.undef := by
  dsimp only [exec, execF32VdotVop, laneDot, laneCell]
  exact laneRun_undef hc h _

theorem undef_Vdota (hc : s.passes f.cond) (h : ¬ s.lanesOn ∨ szWiden f = false) :
    exec (.f32VdotaVop f) s = .next s.undef := by
  dsimp only [exec, execF32VdotaVop, laneDot, laneCell]
  exact laneRun_undef hc h _

theorem undef_Vmulh (hc : s.passes f.cond) (h : ¬ s.lanesOn ∨ szWiden f = false) :
    exec (.f32VmulhVop f) s = .next s.undef := by
  dsimp only [exec, execF32VmulhVop, laneMap, laneCell]
  exact laneRun_undef hc h _

theorem undef_Vrmulh (hc : s.passes f.cond) (h : ¬ s.lanesOn ∨ szWiden f = false) :
    exec (.f32VrmulhVop f) s = .next s.undef := by
  dsimp only [exec, execF32VrmulhVop, laneMap, laneCell]
  exact laneRun_undef hc h _

theorem undef_Vpack (hc : s.passes f.cond) (h : ¬ s.lanesOn ∨ szNarrow0 f = false) :
    exec (.f32VpackVop f) s = .next s.undef := by
  dsimp only [exec, execF32VpackVop, laneCell]
  exact laneRun_undef hc h _

theorem undef_Vqpack (hc : s.passes f.cond) (h : ¬ s.lanesOn ∨ szNarrow f = false) :
    exec (.f32VqpackVop f) s = .next s.undef := by
  dsimp only [exec, execF32VqpackVop, laneSat]
  exact laneRun_undef hc h _

theorem undef_Vunpkb (hc : s.passes f.cond) (h : ¬ s.lanesOn ∨ szUnpack f = false) :
    exec (.f32VunpkbVop f) s = .next s.undef := by
  dsimp only [exec, execF32VunpkbVop, laneCell]
  exact laneRun_undef hc h _

theorem undef_Vunpkt (hc : s.passes f.cond) (h : ¬ s.lanesOn ∨ szUnpack f = false) :
    exec (.f32VunpktVop f) s = .next s.undef := by
  dsimp only [exec, execF32VunpktVop, laneCell]
  exact laneRun_undef hc h _

theorem undef_Vzipb (hc : s.passes f.cond) (h : ¬ s.lanesOn ∨ szWiden0 f = false) :
    exec (.f32VzipbVop f) s = .next s.undef := by
  dsimp only [exec, execF32VzipbVop, laneCell]
  exact laneRun_undef hc h _

theorem undef_Vzipt (hc : s.passes f.cond) (h : ¬ s.lanesOn ∨ szWiden0 f = false) :
    exec (.f32VziptVop f) s = .next s.undef := by
  dsimp only [exec, execF32VziptVop, laneCell]
  exact laneRun_undef hc h _

theorem undef_Vand (hc : s.passes f.cond) (h : ¬ s.lanesOn ∨ szWhole f = false) :
    exec (.f32VandVop f) s = .next s.undef := by
  dsimp only [exec, execF32VandVop, laneCell]
  exact laneRun_undef hc h _

theorem undef_Vorr (hc : s.passes f.cond) (h : ¬ s.lanesOn ∨ szWhole f = false) :
    exec (.f32VorrVop f) s = .next s.undef := by
  dsimp only [exec, execF32VorrVop, laneCell]
  exact laneRun_undef hc h _

theorem undef_Veor (hc : s.passes f.cond) (h : ¬ s.lanesOn ∨ szWhole f = false) :
    exec (.f32VeorVop f) s = .next s.undef := by
  dsimp only [exec, execF32VeorVop, laneCell]
  exact laneRun_undef hc h _

theorem undef_Vceq (hc : s.passes f.cond) (h : ¬ s.lanesOn ∨ szAny0 f = false) :
    exec (.f32VceqVop f) s = .next s.undef := by
  dsimp only [exec, execF32VceqVop, laneCompare]
  exact laneRun_undef hc h _

theorem undef_Vcgt (hc : s.passes f.cond) (h : ¬ s.lanesOn ∨ szAny f = false) :
    exec (.f32VcgtVop f) s = .next s.undef := by
  dsimp only [exec, execF32VcgtVop, laneCompare]
  exact laneRun_undef hc h _

theorem undef_Vcge (hc : s.passes f.cond) (h : ¬ s.lanesOn ∨ szAny f = false) :
    exec (.f32VcgeVop f) s = .next s.undef := by
  dsimp only [exec, execF32VcgeVop, laneCompare]
  exact laneRun_undef hc h _

theorem undef_Vfceq (hc : s.passes f.cond) (h : ¬ s.lanesOn ∨ szFloat f = false) :
    exec (.f32VfceqVop f) s = .next s.undef := by
  dsimp only [exec, execF32VfceqVop, laneFloat]
  exact laneRun_undef hc h _

theorem undef_Vfcge (hc : s.passes f.cond) (h : ¬ s.lanesOn ∨ szFloat f = false) :
    exec (.f32VfcgeVop f) s = .next s.undef := by
  dsimp only [exec, execF32VfcgeVop, laneFloat]
  exact laneRun_undef hc h _

theorem undef_Vfcgt (hc : s.passes f.cond) (h : ¬ s.lanesOn ∨ szFloat f = false) :
    exec (.f32VfcgtVop f) s = .next s.undef := by
  dsimp only [exec, execF32VfcgtVop, laneFloat]
  exact laneRun_undef hc h _

theorem undef_Vfacge (hc : s.passes f.cond) (h : ¬ s.lanesOn ∨ szFloat f = false) :
    exec (.f32VfacgeVop f) s = .next s.undef := by
  dsimp only [exec, execF32VfacgeVop, laneFloat]
  exact laneRun_undef hc h _

theorem undef_Vfacgt (hc : s.passes f.cond) (h : ¬ s.lanesOn ∨ szFloat f = false) :
    exec (.f32VfacgtVop f) s = .next s.undef := by
  dsimp only [exec, execF32VfacgtVop, laneFloat]
  exact laneRun_undef hc h _

theorem undef_Vfcmp (hc : s.passes f.cond) (h : ¬ s.lanesOn ∨ szFloatFlags f = false) :
    exec (.f32VfcmpVop f) s = .next s.undef := by
  dsimp only [exec, execF32VfcmpVop, laneFloatFlags]
  exact laneRun_undef hc h _

theorem undef_Vfcmpe (hc : s.passes f.cond) (h : ¬ s.lanesOn ∨ szFloatFlags f = false) :
    exec (.f32VfcmpeVop f) s = .next s.undef := by
  dsimp only [exec, execF32VfcmpeVop, laneFloatFlags]
  exact laneRun_undef hc h _

end

/-- Every one of these lane operations raises `Undefined`. -/
def LanesTrap (f : F32.VOP) (s : State) (ops : List (F32.VOP → Instr)) : Prop :=
  ∀ op ∈ ops, exec (op f) s = .next s.undef

theorem undef_laneOps {f : F32.VOP} (hc : s.passes f.cond) (h : ¬ s.lanesOn) : LanesTrap f s laneOps := by
  simp only [LanesTrap, laneOps, List.forall_mem_cons, List.not_mem_nil, false_imp_iff, implies_true, and_true]
  exact ⟨undef_Vadd hc (.inl h), undef_Vsub hc (.inl h), undef_Vqadd hc (.inl h),
    undef_Vqsub hc (.inl h), undef_Vshr hc (.inl h), undef_Vrshr hc (.inl h),
    undef_Vmullb hc (.inl h), undef_Vmullt hc (.inl h), undef_Vdot hc (.inl h),
    undef_Vdota hc (.inl h), undef_Vmulh hc (.inl h), undef_Vrmulh hc (.inl h),
    undef_Vpack hc (.inl h), undef_Vqpack hc (.inl h), undef_Vunpkb hc (.inl h),
    undef_Vunpkt hc (.inl h), undef_Vzipb hc (.inl h), undef_Vzipt hc (.inl h),
    undef_Vand hc (.inl h), undef_Vorr hc (.inl h), undef_Veor hc (.inl h),
    undef_Vceq hc (.inl h), undef_Vcgt hc (.inl h), undef_Vcge hc (.inl h),
    undef_Vfceq hc (.inl h), undef_Vfcge hc (.inl h), undef_Vfcgt hc (.inl h),
    undef_Vfacge hc (.inl h), undef_Vfacgt hc (.inl h), undef_Vfcmp hc (.inl h),
    undef_Vfcmpe hc (.inl h)⟩

/-- Every `U`, `sz` or fixed register field that a row does not accept (46_vector_instructions.md R382). -/
theorem undef_laneFields {f : F32.VOP} (hc : s.passes f.cond) :
    (f.u = true → LanesTrap f s [.f32VaddVop, .f32VsubVop, .f32VpackVop, .f32VzipbVop, .f32VziptVop,
      .f32VandVop, .f32VorrVop, .f32VeorVop, .f32VceqVop, .f32VfceqVop, .f32VfcgeVop, .f32VfcgtVop,
      .f32VfacgeVop, .f32VfacgtVop, .f32VfcmpVop, .f32VfcmpeVop]) ∧
    (f.sz = 3 → LanesTrap f s [.f32VmullbVop, .f32VmulltVop, .f32VdotVop, .f32VdotaVop, .f32VmulhVop,
      .f32VrmulhVop, .f32VunpkbVop, .f32VunpktVop, .f32VzipbVop, .f32VziptVop]) ∧
    (f.sz = 0 → LanesTrap f s [.f32VpackVop, .f32VqpackVop]) ∧
    (f.sz ≠ 0 → LanesTrap f s [.f32VandVop, .f32VorrVop, .f32VeorVop]) ∧
    (f.sz.toNat < 2 → LanesTrap f s [.f32VfceqVop, .f32VfcgeVop, .f32VfcgtVop, .f32VfacgeVop, .f32VfacgtVop,
      .f32VfcmpVop, .f32VfcmpeVop]) ∧
    (f.vm ≠ 0 → LanesTrap f s [.f32VunpkbVop, .f32VunpktVop]) ∧
    (f.vd ≠ 0 → LanesTrap f s [.f32VfcmpVop, .f32VfcmpeVop]) := by
  simp only [LanesTrap, List.forall_mem_cons, List.not_mem_nil, false_imp_iff, implies_true, and_true]
  refine ⟨fun hu => ?_, fun h3 => ?_, fun h0 => ?_, fun hne => ?_, fun hlt => ?_, fun hvm => ?_, fun hvd => ?_⟩
  · have hAny0 : szAny0 f = false := by simp [szAny0, hu]
    have hNarrow0 : szNarrow0 f = false := by simp [szNarrow0, hu]
    have hWiden0 : szWiden0 f = false := by simp [szWiden0, hu]
    have hWhole : szWhole f = false := by simp [szWhole, hu]
    have hFloat : szFloat f = false := by simp [szFloat, hu]
    have hFloatFlags : szFloatFlags f = false := by simp [szFloatFlags, hu]
    exact ⟨undef_Vadd hc (.inr hAny0), undef_Vsub hc (.inr hAny0), undef_Vpack hc (.inr hNarrow0),
      undef_Vzipb hc (.inr hWiden0), undef_Vzipt hc (.inr hWiden0), undef_Vand hc (.inr hWhole),
      undef_Vorr hc (.inr hWhole), undef_Veor hc (.inr hWhole), undef_Vceq hc (.inr hAny0),
      undef_Vfceq hc (.inr hFloat), undef_Vfcge hc (.inr hFloat), undef_Vfcgt hc (.inr hFloat),
      undef_Vfacge hc (.inr hFloat), undef_Vfacgt hc (.inr hFloat), undef_Vfcmp hc (.inr hFloatFlags),
      undef_Vfcmpe hc (.inr hFloatFlags)⟩
  · have hWiden : szWiden f = false := by simp [szWiden, szIn, h3]
    have hUnpack : szUnpack f = false := by simp [szUnpack, szIn, h3]
    have hWiden0 : szWiden0 f = false := by simp [szWiden0, szIn, h3]
    exact ⟨undef_Vmullb hc (.inr hWiden), undef_Vmullt hc (.inr hWiden), undef_Vdot hc (.inr hWiden),
      undef_Vdota hc (.inr hWiden), undef_Vmulh hc (.inr hWiden), undef_Vrmulh hc (.inr hWiden),
      undef_Vunpkb hc (.inr hUnpack), undef_Vunpkt hc (.inr hUnpack), undef_Vzipb hc (.inr hWiden0),
      undef_Vzipt hc (.inr hWiden0)⟩
  · have hNarrow0 : szNarrow0 f = false := by simp [szNarrow0, szIn, h0]
    have hNarrow : szNarrow f = false := by simp [szNarrow, szIn, h0]
    exact ⟨undef_Vpack hc (.inr hNarrow0), undef_Vqpack hc (.inr hNarrow)⟩
  · have hWhole : szWhole f = false := by rw [szWhole, beq_eq_false_iff_ne.2 hne, Bool.and_false]
    exact ⟨undef_Vand hc (.inr hWhole), undef_Vorr hc (.inr hWhole), undef_Veor hc (.inr hWhole)⟩
  · have hFloat : szFloat f = false := by simp [szFloat, szIn, hlt]
    have hFloatFlags : szFloatFlags f = false := by simp [szFloatFlags, szIn, hlt]
    exact ⟨undef_Vfceq hc (.inr hFloat), undef_Vfcge hc (.inr hFloat), undef_Vfcgt hc (.inr hFloat),
      undef_Vfacge hc (.inr hFloat), undef_Vfacgt hc (.inr hFloat), undef_Vfcmp hc (.inr hFloatFlags),
      undef_Vfcmpe hc (.inr hFloatFlags)⟩
  · have hUnpack : szUnpack f = false := by simp [szUnpack, hvm]
    exact ⟨undef_Vunpkb hc (.inr hUnpack), undef_Vunpkt hc (.inr hUnpack)⟩
  · have hFloatFlags : szFloatFlags f = false := by simp [szFloatFlags, hvd]
    exact ⟨undef_Vfcmp hc (.inr hFloatFlags), undef_Vfcmpe hc (.inr hFloatFlags)⟩

/-! ### C16 -/

theorem mayBranch_eq_false (h16 : s.itstate.toNat % 16 ≠ 0) (h8 : s.itstate.toNat % 8 ≠ 0) : s.mayBranch = false := by
  have hlast : (s.itstate.extractLsb' 0 3 == 0) = false := by
    rw [beq_eq_false_iff_ne]
    intro h
    apply h8
    have := congrArg BitVec.toNat h
    simpa using this
  rw [State.mayBranch, State.lastSlot, (inGroup_iff s).2 h16, hlast]
  rfl

section
variable (hs : s.slotRuns)
include hs

theorem undef_c16Group (hb : s.mayBranch = false) :
    (∀ f : C16.HI, f.d = 15 → exec (.c16AddHi f) s = .next s.undef ∧ exec (.c16MovHi f) s = .next s.undef) ∧
    (∀ f : C16.BXR, exec (.c16BxBx f) s = .next s.undef ∧ exec (.c16BlxBx f) s = .next s.undef) ∧
    (∀ f : C16.B, exec (.c16BB f) s = .next s.undef) ∧ (∀ f : C16.BL2, exec (.c16BlBl2 f) s = .next s.undef) ∧
    (∀ f : C16.BL2X, exec (.c16BlxBl2 f) s = .next s.undef) ∧
    (∀ f : C16.PP, f.r = true → exec (.c16PopPp f) s = .next s.undef) := by
  dsimp only [exec, execC16AddHi, execC16MovHi, c16High, execC16BxBx, execC16BlxBx, execC16BB, execC16BlBl2,
    execC16BlxBl2, execC16PopPp, c16LoadMultiple]
  refine ⟨fun f hd => ?_, fun f => ?_, fun f => c16Run_illegal hs hb _, fun f => c16Run_illegal hs hb _,
    fun f => c16Run_illegal hs hb _, fun f hr => c16Run_illegal hs ?_ _⟩
  · have hl : (f.d != 15 || s.mayBranch) = false := by rw [hd, hb]; rfl
    exact ⟨c16Run_illegal hs hl _, c16Run_illegal hs hl _⟩
  · exact ⟨c16Run_illegal hs hb _, c16Run_illegal hs (by rw [hb, Bool.and_false]) _⟩
  · rw [popList_15, hr, hb]
    exact Bool.and_false _

theorem undef_c16Bcond (h16 : s.itstate.toNat % 16 ≠ 0) (f : C16.BC) : exec (.c16BBc f) s = .next s.undef := by
  dsimp only [exec, execC16BBc]
  exact c16Run_illegal hs (by rw [(inGroup_iff s).2 h16]; rfl) _

theorem undef_c16Blx {f : C16.BXR} (h : f.rm = 15) : exec (.c16BlxBx f) s = .next s.undef := by
  dsimp only [exec, execC16BlxBx]
  exact c16Run_illegal hs (by rw [h]; rfl) _

theorem undef_c16StoreMultiple (rn : Fin 16) (p u : Bool) : c16StoreMultiple 0 rn p u s = .next s.undef :=
  c16Run_illegal hs rfl _

theorem undef_c16LoadMultiple (rn : Fin 16) : c16LoadMultiple 0 rn s = .next s.undef :=
  c16Run_illegal hs rfl _

end

/-! ### F32 loads and stores -/

section
variable {a : SingleAddr} {rd : Fin 16}

theorem loadSingle_undef {acc : Priv} {n : Nat} {ext : Nat → Word} {p : Bool}
    (h : a.undefined = true ∨ (rd = 15 ∧ p = false)) : loadSingle s a acc n ext rd p = s.undef := by
  rw [loadSingle_eq, if_pos h]

theorem storeSingle_undef {acc : Priv} {n : Nat} {p : Bool}
    (h : a.undefined = true ∨ (rd = 15 ∧ p = false)) : storeSingle s a acc n rd p = s.undef := by
  rw [storeSingle_eq, if_pos h]

theorem pair_illegal (h : a.undefined = true ∨ rd.val % 2 = 1 ∨ rd = 14) : (a.undefined || badPair rd) = true := by
  simpa [badPair] using h

theorem loadDouble_undef (h : a.undefined = true ∨ rd.val % 2 = 1 ∨ rd = 14) : loadDouble s a rd = s.undef :=
  if_pos (pair_illegal h)

theorem storeDouble_undef (h : a.undefined = true ∨ rd.val % 2 = 1 ∨ rd = 14) : storeDouble s a rd = s.undef :=
  if_pos (pair_illegal h)

end

/-- An address form is illegal with an offset register 15 or a writeback to register 15. -/
theorem SingleAddr.undefined_iff (a : SingleAddr) :
    a.undefined = true ↔ a.rmIs15 = true ∨ ((a.p = false ∨ a.w = true) ∧ a.rn = 15) := by
  simp [SingleAddr.undefined, SingleAddr.wback]

theorem undefined_addrLsi (f : F32.LSI) :
    (addrLsi f).undefined = true ↔ (f.p = false ∨ f.w = true) ∧ f.rn = 15 := by
  simp [SingleAddr.undefined_iff, addrLsi]

theorem undefined_addrLsr (f : F32.LSR) :
    (addrLsr f s).undefined = true ↔ ((f.p = false ∨ f.w = true) ∧ f.rn = 15) ∨ f.rm = 15 := by
  simp [SingleAddr.undefined_iff, addrLsr, or_comm]

theorem undefined_addrLshi (f : F32.LSHI) :
    (addrLshi f).undefined = true ↔ (f.p = false ∨ f.w = true) ∧ f.rn = 15 := by
  simp [SingleAddr.undefined_iff, addrLshi]

theorem undefined_addrLshr (f : F32.LSHR) :
    (addrLshr f s).undefined = true ↔ ((f.p = false ∨ f.w = true) ∧ f.rn = 15) ∨ f.rm = 15 := by
  simp [SingleAddr.undefined_iff, addrLshr, or_comm]

theorem undefined_addrLsit (f : F32.LSIT) : (addrLsit f).undefined = true ↔ f.rn = 15 := by
  simp [SingleAddr.undefined_iff, addrLsit]

theorem undefined_addrLsrt (f : F32.LSRT) : (addrLsrt f s).undefined = true ↔ f.rn = 15 ∨ f.rm = 15 := by
  simp [SingleAddr.undefined_iff, addrLsrt, or_comm]

/-- An instruction whose condition holds and whose effect is the raise. -/
theorem f32Run_undef {c : Cond} {body : State → State} (hc : s.passes c) (h : body s = s.undef) :
    f32Run c s body = .next s.undef := by
  rw [f32Run_pass hc, h]

theorem undef_lsi {f : F32.LSI} (hc : s.passes f.cond) :
    ((f.p = false ∨ f.w = true) ∧ f.rn = 15 →
      exec (.f32LdrLsi f) s = .next s.undef ∧ exec (.f32StrLsi f) s = .next s.undef) ∧
    (((f.p = false ∨ f.w = true) ∧ f.rn = 15) ∨ f.rd = 15 →
      exec (.f32LdrbLsi f) s = .next s.undef ∧ exec (.f32StrbLsi f) s = .next s.undef) := by
  dsimp only [exec, execF32LdrLsi, execF32StrLsi, execF32LdrbLsi, execF32StrbLsi]
  rw [← undefined_addrLsi]
  refine ⟨fun h => ⟨f32Run_undef hc (loadSingle_undef (.inl h)), f32Run_undef hc (storeSingle_undef (.inl h))⟩,
    fun h => ?_⟩
  have h' := h.imp_right fun h => And.intro h (rfl : false = false)
  exact ⟨f32Run_undef hc (loadSingle_undef h'), f32Run_undef hc (storeSingle_undef h')⟩

theorem undef_lsr {f : F32.LSR} (hc : s.passes f.cond) :
    (((f.p = false ∨ f.w = true) ∧ f.rn = 15) ∨ f.rm = 15 →
      exec (.f32LdrLsr f) s = .next s.undef ∧ exec (.f32StrLsr f) s = .next s.undef) ∧
    (((f.p = false ∨ f.w = true) ∧ f.rn = 15) ∨ f.rm = 15 ∨ f.rd = 15 →
      exec (.f32LdrbLsr f) s = .next s.undef ∧ exec (.f32StrbLsr f) s = .next s.undef) := by
  dsimp only [exec, execF32LdrLsr, execF32StrLsr, execF32LdrbLsr, execF32StrbLsr]
  rw [← or_assoc, ← undefined_addrLsr (s := s)]
  refine ⟨fun h => ⟨f32Run_undef hc (loadSingle_undef (.inl h)), f32Run_undef hc (storeSingle_undef (.inl h))⟩,
    fun h => ?_⟩
  have h' := h.imp_right fun h => And.intro h (rfl : false = false)
  exact ⟨f32Run_undef hc (loadSingle_undef h'), f32Run_undef hc (storeSingle_undef h')⟩

theorem undef_lshi {f : F32.LSHI} (hc : s.passes f.cond) :
    (((f.p = false ∨ f.w = true) ∧ f.rn = 15) ∨ f.rd = 15 →
      exec (.f32LdrhLshi f) s = .next s.undef ∧ exec (.f32StrhLshi f) s = .next s.undef ∧
      exec (.f32LdrsbLshi f) s = .next s.undef ∧ exec (.f32LdrshLshi f) s = .next s.undef) ∧
    (((f.p = false ∨ f.w = true) ∧ f.rn = 15) ∨ f.rd.val % 2 = 1 ∨ f.rd = 14 →
      exec (.f32LdrdLshi f) s = .next s.undef ∧ exec (.f32StrdLshi f) s = .next s.undef) := by
  dsimp only [exec, execF32LdrhLshi, execF32StrhLshi, execF32LdrsbLshi, execF32LdrshLshi, execF32LdrdLshi,
    execF32StrdLshi]
  rw [← undefined_addrLshi]
  refine ⟨fun h => ?_, fun h => ⟨f32Run_undef hc (loadDouble_undef h), f32Run_undef hc (storeDouble_undef h)⟩⟩
  have h' := h.imp_right fun h => And.intro h (rfl : false = false)
  exact ⟨f32Run_undef hc (loadSingle_undef h'), f32Run_undef hc (storeSingle_undef h'),
    f32Run_undef hc (loadSingle_undef h'), f32Run_undef hc (loadSingle_undef h')⟩

theorem undef_lshr {f : F32.LSHR} (hc : s.passes f.cond) :
    (((f.p = false ∨ f.w = true) ∧ f.rn = 15) ∨ f.rm = 15 ∨ f.rd = 15 →
      exec (.f32LdrhLshr f) s = .next s.undef ∧ exec (.f32StrhLshr f) s = .next s.undef ∧
      exec (.f32LdrsbLshr f) s = .next s.undef ∧ exec (.f32LdrshLshr f) s = .next s.undef) ∧
    (((f.p = false ∨ f.w = true) ∧ f.rn = 15) ∨ f.rm = 15 ∨ f.rd.val % 2 = 1 ∨ f.rd = 14 →
      exec (.f32LdrdLshr f) s = .next s.undef ∧ exec (.f32StrdLshr f) s = .next s.undef) := by
  dsimp only [exec, execF32LdrhLshr, execF32StrhLshr, execF32LdrsbLshr, execF32LdrshLshr, execF32LdrdLshr,
    execF32StrdLshr]
  simp only [← or_assoc, ← undefined_addrLshr (s := s)]
  simp only [or_assoc]
  refine ⟨fun h => ?_, fun h => ⟨f32Run_undef hc (loadDouble_undef h), f32Run_undef hc (storeDouble_undef h)⟩⟩
  have h' := h.imp_right fun h => And.intro h (rfl : false = false)
  exact ⟨f32Run_undef hc (loadSingle_undef h'), f32Run_undef hc (storeSingle_undef h'),
    f32Run_undef hc (loadSingle_undef h'), f32Run_undef hc (loadSingle_undef h')⟩

theorem undef_lsit {f : F32.LSIT} (hc : s.passes f.cond) (h : f.rn = 15 ∨ f.rd = 15) :
    exec (.f32LdrtLsi f) s = .next s.undef ∧ exec (.f32StrtLsi f) s = .next s.undef ∧
      exec (.f32LdrbtLsi f) s = .next s.undef ∧ exec (.f32StrbtLsi f) s = .next s.undef := by
  dsimp only [exec, execF32LdrtLsi, execF32StrtLsi, execF32LdrbtLsi, execF32StrbtLsi]
  rw [← undefined_addrLsit] at h
  have h' := h.imp_right fun h => And.intro h (rfl : false = false)
  exact ⟨f32Run_undef hc (loadSingle_undef h'), f32Run_undef hc (storeSingle_undef h'),
    f32Run_undef hc (loadSingle_undef h'), f32Run_undef hc (storeSingle_undef h')⟩

theorem undef_lsrt {f : F32.LSRT} (hc : s.passes f.cond) (h : f.rn = 15 ∨ f.rm = 15 ∨ f.rd = 15) :
    exec (.f32LdrtLsr f) s = .next s.undef ∧ exec (.f32StrtLsr f) s = .next s.undef ∧
      exec (.f32LdrbtLsr f) s = .next s.undef ∧ exec (.f32StrbtLsr f) s = .next s.undef := by
  dsimp only [exec, execF32LdrtLsr, execF32StrtLsr, execF32LdrbtLsr, execF32StrbtLsr]
  rw [← or_assoc, ← undefined_addrLsrt (s := s)] at h
  have h' := h.imp_right fun h => And.intro h (rfl : false = false)
  exact ⟨f32Run_undef hc (loadSingle_undef h'), f32Run_undef hc (storeSingle_undef h'),
    f32Run_undef hc (loadSingle_undef h'), f32Run_undef hc (storeSingle_undef h')⟩

/-! ### F32 multiples, swaps, system and vector transfers -/

theorem multipleUndefined_iff (f : F32.LSM) (isLoad : Bool) (s : State) :
    multipleUndefined f isLoad s = true ↔ f.rn = 15 ∨ f.reglist = 0 ∨
      f.s = true ∧ (s.priv = .user ∨ f.w = true ∨ isLoad = true ∧ f.reglist[15] = true) := by
  simp [multipleUndefined, or_assoc]

theorem undef_ldm {f : F32.LSM} (hc : s.passes f.cond) (h : multipleUndefined f true s = true) :
    exec (.f32LdmLsm f) s = .next s.undef := by
  dsimp only [exec, execF32LdmLsm]
  exact f32Run_undef hc (if_pos h)

theorem undef_stm {f : F32.LSM} (hc : s.passes f.cond) (h : multipleUndefined f false s = true) :
    exec (.f32StmLsm f) s = .next s.undef := by
  dsimp only [exec, execF32StmLsm]
  exact f32Run_undef hc (if_pos h)

theorem undef_lsm {f : F32.LSM} (hc : s.passes f.cond) :
    (f.rn = 15 ∨ f.reglist = 0 → exec (.f32LdmLsm f) s = .next s.undef ∧ exec (.f32StmLsm f) s = .next s.undef) ∧
    (f.s = true → s.priv = .user ∨ f.w = true →
      exec (.f32LdmLsm f) s = .next s.undef ∧ exec (.f32StmLsm f) s = .next s.undef) ∧
    (f.s = true → f.reglist[15] = true → exec (.f32LdmLsm f) s = .next s.undef) := by
  refine ⟨fun h => ?_, fun hs h => ?_, fun hs h15 => ?_⟩
  · have h' (isLoad : Bool) : multipleUndefined f isLoad s = true :=
      (multipleUndefined_iff ..).2 (h.imp_right .inl)
    exact ⟨undef_ldm hc (h' true), undef_stm hc (h' false)⟩
  · have h' (isLoad : Bool) : multipleUndefined f isLoad s = true :=
      (multipleUndefined_iff ..).2 (.inr (.inr ⟨hs, h.imp_right .inl⟩))
    exact ⟨undef_ldm hc (h' true), undef_stm hc (h' false)⟩
  · exact undef_ldm hc ((multipleUndefined_iff ..).2 (.inr (.inr ⟨hs, .inr (.inr ⟨rfl, h15⟩)⟩)))

theorem undef_swap {f : F32.SWP} (hc : s.passes f.cond) (h : f.rd = 15 ∨ f.rm = 15 ∨ f.rn = 15) (n : Nat) :
    swap n f s = .next s.undef := f32Run_undef hc (if_pos h)

theorem undef_sys {f : F32.SYS} (hc : s.passes f.cond) (h : s.priv = .user ∨ f.rt = 15) :
    exec (.f32SysrSys f) s = .next s.undef ∧ exec (.f32SyswSys f) s = .next s.undef := by
  dsimp only [exec, execF32SysrSys, execF32SyswSys]
  exact ⟨f32Run_undef hc (if_pos h), f32Run_undef hc (if_pos h)⟩

theorem undef_vxfer {f : F32.VXFER} (hc : s.passes f.cond) :
    (s.vstat.en = false ∨ f.rt = 15 ∨ f.rt2 = 15 → exec (.f32VmovtvVxfer f) s = .next s.undef) ∧
    (s.vstat.en = false ∨ f.rt = 15 ∨ f.rt2 = 15 ∨ f.rt = f.rt2 → exec (.f32VmovfvVxfer f) s = .next s.undef) := by
  dsimp only [exec, execF32VmovtvVxfer, execF32VmovfvVxfer]
  exact ⟨fun h => f32Run_undef hc (if_pos (by simpa [or_assoc] using h)),
    fun h => f32Run_undef hc (if_pos (by simpa [or_assoc] using h))⟩

/-- Numbers 1 and above are accessible only while the unit is enabled. -/
theorem readControl_off {v : VecStatus} {n : BitVec 4} (hn : n ≠ 0) (he : v.en = false) : v.readControl n = none := by
  unfold VecStatus.readControl
  split
  · exact absurd (BitVec.eq_of_toNat_eq ‹_›) hn
  all_goals simp [he]

theorem writeControl_off {v : VecStatus} {p : Priv} {n : BitVec 4} {x : Word} (hn : n ≠ 0) (he : v.en = false) :
    v.writeControl p n x = none := by
  unfold VecStatus.writeControl
  split
  · exact absurd (BitVec.eq_of_toNat_eq ‹_›) hn
  all_goals simp [he]

theorem undef_vmrs {f : F32.VCTL} (hc : s.passes f.cond) (h : f.rt = 15 ∨ s.vstat.readControl f.vcn = none) :
    exec (.f32VmrsVctl f) s = .next s.undef := by
  dsimp only [exec, execF32VmrsVctl]
  refine f32Run_undef hc ?_
  split
  · rfl
  · rw [h.resolve_left ‹_›]

theorem undef_vmsr {f : F32.VCTL} (hc : s.passes f.cond)
    (h : f.rt = 15 ∨ s.vstat.writeControl s.priv f.vcn (s.rF f.rt) = none) :
    exec (.f32VmsrVctl f) s = .next s.undef := by
  dsimp only [exec, execF32VmsrVctl]
  refine f32Run_undef hc ?_
  split
  · rfl
  · rw [h.resolve_left ‹_›]

theorem undef_vls {f : F32.VLS} (hc : s.passes f.cond) (h : s.vstat.en = false ∨ (f.w = true ∧ f.rn = 15)) :
    exec (.f32VldrVls f) s = .next s.undef ∧ exec (.f32VstrVls f) s = .next s.undef := by
  have h' : vlsUndefined f s = true := by simpa [vlsUndefined] using h
  dsimp only [exec, execF32VldrVls, execF32VstrVls]
  exact ⟨f32Run_undef hc (if_pos h'), f32Run_undef hc (if_pos h')⟩

/-! ### The obligation -/

theorem undef_user (hp : s.priv = .user) :
    (∀ f : F32.LSM, s.passes f.cond → f.s = true →
      exec (.f32LdmLsm f) s = .next s.undef ∧ exec (.f32StmLsm f) s = .next s.undef) ∧
    (∀ f : F32.SYS, s.passes f.cond →
      exec (.f32SysrSys f) s = .next s.undef ∧ exec (.f32SyswSys f) s = .next s.undef) ∧
    (∀ f : F32.VCTL, s.passes f.cond → f.vcn = 0 → exec (.f32VmsrVctl f) s = .next s.undef) := by
  refine ⟨fun f hc hs => ?_, fun f hc => undef_sys hc (.inl hp), fun f hc h0 => undef_vmsr hc (.inr ?_)⟩
  · obtain ⟨-, huser, -⟩ := undef_lsm hc
    exact huser hs (.inl hp)
  · rw [h0, hp]
    rfl

theorem undef_c16 (hs : s.slotRuns) :
    (∀ f : C16.PP, f.reglist = 0 → f.r = false →
      exec (.c16PushPp f) s = .next s.undef ∧ exec (.c16PopPp f) s = .next s.undef) ∧
    (∀ f : C16.LSM, f.reglist = 0 →
      exec (.c16StmiaLsm f) s = .next s.undef ∧ exec (.c16LdmiaLsm f) s = .next s.undef) := by
  dsimp only [exec, execC16PushPp, execC16PopPp, execC16StmiaLsm, execC16LdmiaLsm]
  refine ⟨fun f hl hr => ?_, fun f hl => ?_⟩
  · have hpush : pushList f = 0 := by simp [pushList, hl, hr]
    have hpop : popList f = 0 := by simp [popList, hl, hr]
    rw [hpush, hpop]
    exact ⟨undef_c16StoreMultiple hs .., undef_c16LoadMultiple hs _⟩
  · rw [hl]
    exact ⟨undef_c16StoreMultiple hs .., undef_c16LoadMultiple hs _⟩

/-- Settles O17: the forms by mode and format. -/
theorem undefinedForms : Obligations.UndefinedForms := by
  refine ⟨fun s hp => undef_user hp, fun f s hc => ⟨undef_laneOps hc, undef_laneFields hc⟩, fun s hs => ?_, fun s => ?_⟩
  · obtain ⟨hpp, hlsm⟩ := undef_c16 hs
    exact ⟨fun h16 h8 => undef_c16Group hs (mayBranch_eq_false h16 h8), undef_c16Bcond hs, fun f => undef_c16Blx hs,
      hpp, hlsm⟩
  · refine ⟨fun f => undef_lsi, fun f => undef_lsr, fun f => undef_lshi, fun f => undef_lshr, fun f => undef_lsit,
      fun f => undef_lsrt, fun f hc => ?_, fun f hc h => ⟨undef_swap hc h 4, undef_swap hc h 1⟩,
      fun f hc h => undef_sys hc (.inr h), fun f => undef_vxfer, fun f hc h => ?_, fun f => undef_vls⟩
    · obtain ⟨hform, hs, hpc⟩ := undef_lsm hc
      exact ⟨hform, fun h hw => hs h (.inr hw), hpc⟩
    · exact ⟨undef_vmrs hc (h.imp_right fun h => readControl_off h.1 h.2),
        undef_vmsr hc (h.imp_right fun h => writeControl_off h.1 h.2)⟩

end Sys2Proof.Machine
end

section
/-! PROOFS. The memory transfers of F32 (44_f32_load_store.md): the single registers, the pairs, the multiples and the
swaps. Each instruction is its shared shape under a passing condition, and the shapes are followed once. -/

namespace Sys2Proof.Machine

variable {s : State}

/-! ### Single registers -/

/-- The shape of a load of one register, the port answering. -/
theorem loadSingle_ok {a : SingleAddr} {acc : Priv} {n : Nat} {rd : Fin 16} {p : Bool} (ext : Nat → Word)
    (hl : a.undefined = false) (hrd : rd = 15 → p = true) (hr : s.canRead32 acc (a.resolve s).address n) :
    loadSingle s a acc n ext rd p =
      if rd = 15 then
        (s.writeBack32 a.rn (a.resolve s).newBase).branchExchange (ext (s.narrowAt (a.resolve s).address n))
      else ((s.writeBack32 a.rn (a.resolve s).newBase).setR rd (ext (s.narrowAt (a.resolve s).address n))).next4 := by
  have hlegal : ¬ (a.undefined = true ∨ (rd = 15 ∧ p = false)) := by
    rintro (h | ⟨h, h'⟩)
    · exact Bool.false_ne_true (hl.symm.trans h)
    · exact Bool.false_ne_true (h'.symm.trans (hrd h))
  rw [loadSingle_eq, if_neg hlegal, if_neg (by rw [show s.aborts .read _ n acc = false from hr]; exact Bool.false_ne_true)]

theorem loadsAs {i : Instr} {c : Cond} {a : SingleAddr} {acc : Priv} {n : Nat} {ext : Nat → Word} {rd : Fin 16}
    {p : Bool} {body : State → State} (hc : s.passes c) (hi : exec i s = f32Run c s body)
    (hb : body s = loadSingle s a acc n ext rd p) : LoadsAs i s a acc n ext rd := by
  intro hrm hrn hrd hr
  rw [hi, f32Run_pass hc, hb, loadSingle_ok ext (SingleAddr.undefined_eq_false hrm hrn) (fun h => absurd h hrd) hr,
    if_neg hrd]

/-- The signed loads read the same bytes as a signed number. -/
theorem loadsAs_signed {i : Instr} {c : Cond} {a : SingleAddr} {acc : Priv} {n : Nat} {rd : Fin 16}
    {p : Bool} {body : State → State} (hc : s.passes c) (hi : exec i s = f32Run c s body)
    (hb : body s = loadSingle s a acc n (sextTo (8 * n) 32) rd p) (hn : 0 < n) :
    LoadsAs i s a acc n (signedBytes 32 n) rd := by
  intro hrm hrn hrd hr
  rw [loadsAs hc hi hb hrm hrn hrd hr, sextTo_eq n 32 _ hn (narrowAt_lt ..)]

/-- A word loaded for register 15. -/
theorem loads_pc {i : Instr} {c : Cond} {a : SingleAddr} {rd : Fin 16} {body : State → State} (hc : s.passes c)
    (hi : exec i s = f32Run c s body) (hb : body s = loadSingle s a s.priv 4 (BitVec.ofNat 32) rd true) (hrd : rd = 15)
    (hrm : a.rmIs15 = false) (hrn : a.wback = true → a.rn ≠ 15) (hr : s.canRead32 s.priv (a.resolve s).address 4) :
    exec i s = .next ((s.writeBack32 a.rn (a.resolve s).newBase).branchExchange
      (BitVec.ofNat 32 (s.narrowAt (a.resolve s).address 4))) := by
  rw [hi, f32Run_pass hc, hb, loadSingle_ok _ (SingleAddr.undefined_eq_false hrm hrn) (fun _ => rfl) hr, if_pos hrd]

/-- The address form of a record of fields. -/
theorem addressesAs (rn : Fin 16) (b : Bool) (off : Word) (p u w : Bool) :
    AddressesAs ⟨rn, b, off, p, u, w⟩ s rn b (signedBy u off.toNat) p (!p || w) :=
  ⟨rfl, rfl, rfl, resolveSingle_eq ..⟩

/-- Settles O33: the shape of a load, used once for each of the sixteen loads; the address forms are one lemma about
the fields of the address. -/
theorem singleLoads : Obligations.SingleLoads := by
  intro s
  have imm {n : Nat} (hn : n ≤ 32) (v : BitVec n) : (v.setWidth 32).toNat = v.toNat := by
    rw [BitVec.toNat_setWidth, Nat.mod_eq_of_lt (lt_of_lt_of_le v.isLt (Nat.pow_le_pow_right (by omega) hn))]
  refine ⟨⟨fun f => ?_, fun f => addressesAs .., fun f => ?_, fun f => addressesAs .., fun f => ?_,
    fun f => addressesAs ..⟩, fun f hc => ⟨?_, ?_, ?_⟩, fun f hc => ⟨?_, ?_, ?_⟩, fun f hc => ⟨?_, ?_, ?_⟩,
    fun f hc => ⟨?_, ?_, ?_⟩, fun f hc => ⟨?_, ?_⟩, fun f hc => ⟨?_, ?_⟩⟩
  · rw [← imm (by omega) f.imm12]; exact addressesAs ..
  · rw [← imm (by omega) f.imm8]; exact addressesAs ..
  · rw [← imm (by omega) f.imm12]; exact addressesAs ..
  · exact loadsAs hc (by rfl) rfl
  · exact loadsAs hc (by rfl) rfl
  · exact fun hrd hrn hr => loads_pc hc (by rfl) rfl hrd rfl hrn hr
  · exact loadsAs hc (by rfl) rfl
  · exact loadsAs hc (by rfl) rfl
  · exact fun hrd hrm hrn hr => loads_pc hc (by rfl) rfl hrd (beq_false_of_ne hrm) hrn hr
  · exact loadsAs hc (by rfl) rfl
  · exact loadsAs_signed hc (by rfl) rfl (by omega)
  · exact loadsAs_signed hc (by rfl) rfl (by omega)
  · exact loadsAs hc (by rfl) rfl
  · exact loadsAs_signed hc (by rfl) rfl (by omega)
  · exact loadsAs_signed hc (by rfl) rfl (by omega)
  · exact loadsAs hc (by rfl) rfl
  · exact loadsAs hc (by rfl) rfl
  · exact loadsAs hc (by rfl) rfl
  · exact loadsAs hc (by rfl) rfl

/-- A store of one register, the port answering. -/
theorem storesAs {i : Instr} {c : Cond} {a : SingleAddr} {acc : Priv} {n : Nat} {rd : Fin 16} {p : Bool} {v : Word}
    {body : State → State} (hc : s.passes c) (hi : exec i s = f32Run c s body) (hb : body s = storeSingle s a acc n rd p)
    (hrd : rd = 15 → p = true) (hv : s.storedF rd = v) (hn : n ≤ 2 ^ 32) : StoresAs i s a acc n v := by
  intro hm hrm hrn hw
  have hlegal : ¬ (a.undefined = true ∨ (rd = 15 ∧ p = false)) := by
    rintro (h | ⟨h, h'⟩)
    · exact Bool.false_ne_true ((SingleAddr.undefined_eq_false hrm hrn).symm.trans h)
    · exact Bool.false_ne_true (h'.symm.trans (hrd h))
  rw [hi, f32Run_pass hc, hb, storeSingle_eq, if_neg hlegal,
    if_neg (by rw [show s.aborts .write _ n acc = false from hw]; exact Bool.false_ne_true), State.storeValue_eq, hv]
  exact ⟨_, rfl, Memory.get_store hm _ (by decide) (BitVec.isLt _) hn _⟩

/-- Settles O34: the shape of a store, used once for each of the eleven stores. -/
theorem singleStores : Obligations.SingleStores := by
  intro s
  have other {rd : Fin 16} (h : rd ≠ 15) : s.storedF rd = s.rF rd := if_neg h
  refine ⟨fun f hc => ⟨?_, fun hrd => ?_⟩, fun f hc => ⟨?_, fun hrd => ?_⟩, fun f hc hrd => ?_, fun f hc hrd => ?_,
    fun f hc hrd => ⟨?_, ?_⟩, fun f hc hrd => ⟨?_, ?_⟩⟩
  · exact storesAs hc (by rfl) rfl (fun _ => rfl) rfl (by decide)
  · exact storesAs hc (by rfl) rfl (fun h => absurd h hrd) (other hrd) (by decide)
  · exact storesAs hc (by rfl) rfl (fun _ => rfl) rfl (by decide)
  · exact storesAs hc (by rfl) rfl (fun h => absurd h hrd) (other hrd) (by decide)
  · exact storesAs hc (by rfl) rfl (fun h => absurd h hrd) (other hrd) (by decide)
  · exact storesAs hc (by rfl) rfl (fun h => absurd h hrd) (other hrd) (by decide)
  · exact storesAs hc (by rfl) rfl (fun h => absurd h hrd) (other hrd) (by decide)
  · exact storesAs hc (by rfl) rfl (fun h => absurd h hrd) (other hrd) (by decide)
  · exact storesAs hc (by rfl) rfl (fun h => absurd h hrd) (other hrd) (by decide)
  · exact storesAs hc (by rfl) rfl (fun h => absurd h hrd) (other hrd) (by decide)

/-! ### Pairs -/

theorem pair_legal {a : SingleAddr} {rd : Fin 16} (hrm : a.rmIs15 = false) (hrn : a.wback = true → a.rn ≠ 15)
    (hev : rd.val % 2 = 0) (h14 : rd ≠ 14) : ¬ (a.undefined || badPair rd) = true := by
  simp [SingleAddr.undefined_eq_false hrm hrn, badPair, hev, h14]

theorem loadsPair {i : Instr} {c : Cond} {a : SingleAddr} {rd : Fin 16} {body : State → State} (hc : s.passes c)
    (hi : exec i s = f32Run c s body) (hb : body s = loadDouble s a rd) (hev : rd.val % 2 = 0) (h14 : rd ≠ 14) :
    LoadsPair i s a rd := by
  intro hrm hrn hr1 hr2
  rw [hi, f32Run_pass hc, hb, loadDouble, if_neg (pair_legal hrm hrn hev h14)]
  dsimp only
  rw [load32_ok hr1]
  dsimp only
  rw [load32_ok hr2]
  rfl

/-- Two stores at rising addresses. -/
theorem readsAs_storeTwo {m : List Host.Cell} (hm : Memory.wf m = true) (e : Endian) (a v1 v2 : Word) :
    ReadsAs (Memory.store (Memory.store m e 32 a.toNat 4 v1.toNat) e 32 (a + 4).toNat 4 v2.toNat)
      (storedWords (Memory.get m) e a [v1, v2]) := by
  have h1 := Memory.get_store hm e (bits := 32) (by decide) a.isLt (by decide : 4 ≤ 2 ^ 32) v1.toNat
  rw [storedWords, storedWords, storedWords, ← show Memory.get _ = _ from funext h1]
  exact Memory.get_store (Memory.wf_store hm _ (by decide) _ _ _) _ (by decide) (BitVec.isLt _) (by decide) _

theorem storesPair {i : Instr} {c : Cond} {a : SingleAddr} {rd : Fin 16} {body : State → State} (hc : s.passes c)
    (hi : exec i s = f32Run c s body) (hb : body s = storeDouble s a rd) (hev : rd.val % 2 = 0) (h14 : rd ≠ 14) :
    StoresPair i s a rd := by
  intro hm hrm hrn hw1 hw2
  rw [hi, f32Run_pass hc, hb, storeDouble, if_neg (pair_legal hrm hrn hev h14)]
  dsimp only
  rw [store32_ok hw1]
  dsimp only
  rw [State.store32, store_setMem_ok hw2]
  refine ⟨_, rfl, ?_⟩
  rw [toNat_wide]
  exact readsAs_storeTwo hm s.cfg.endian _ _ _

/-- Settles O36: both address forms are one shape of a load and one of a store. -/
theorem doublewordTransfers : Obligations.DoublewordTransfers := by
  intro s
  refine ⟨fun f hc hev h14 => ⟨?_, ?_⟩, fun f hc hev h14 => ⟨?_, ?_⟩⟩
  · exact loadsPair hc (by rfl) rfl hev h14
  · exact storesPair hc (by rfl) rfl hev h14
  · exact loadsPair hc (by rfl) rfl hev h14
  · exact storesPair hc (by rfl) rfl hev h14

/-! ### Multiples -/

theorem multiple_legal {f : F32.LSM} {isLoad : Bool} (hrn : f.rn ≠ 15) (hl : f.reglist ≠ 0)
    (hs : f.s = true → s.priv = .privileged ∧ f.w = false ∧ (isLoad = true → f.reglist[15] = false)) :
    ¬ multipleUndefined f isLoad s = true := by
  rw [multipleUndefined_iff]
  rintro (h | h | ⟨h, h'⟩)
  · exact hrn h
  · exact hl h
  · obtain ⟨hp, hw, h15⟩ := hs h
    rcases h' with h' | h' | ⟨hload, h'⟩
    · exact absurd (hp.symm.trans h') nofun
    · exact Bool.false_ne_true (hw.symm.trans h')
    · exact Bool.false_ne_true ((h15 hload).symm.trans h')

theorem multipleAddr_eq (f : F32.LSM) (s : State) : multipleAddr f s =
    ⟨multiStart (s.rF f.rn) (listSize f.reglist) f.p f.u, multiBase (s.rF f.rn) (listSize f.reglist) f.u⟩ := by
  rw [multipleAddr, show regList f.reglist = listed f.reglist from rfl, length_listed, resolveMultiple_eq]

/-- A property of the address of every listed register, by the place in the list. -/
theorem slots_of_listed {l : BitVec 16} {start : Word} {P : Word → Prop}
    (h : ∀ i : Fin 16, l[i] = true → P (slotAddr l start i)) (k : Nat) (hk : k < (listed l).length) :
    P (start + BitVec.ofNat 32 (4 * k)) := by
  have h1 := (mem_listed l ((listed l)[k])).1 (List.getElem_mem hk)
  have := h ((listed l)[k]) (by simpa using h1)
  rwa [slotAddr, rankIn_getElem l hk] at this

/-- The registers after the base and the loaded words are written: a loaded base wins. -/
theorem getElem_writeLoaded (rn : Fin 16) (b : Option Word) (l : BitVec 16) (v : Fin 16 → Word) (i : Fin 15) :
    ((s.writeBack32 rn b).writeLoaded ((listed l).map fun i => (i, v i))).r[i] =
      if l[i.val]'(by omega) then v ⟨i.val, by omega⟩ else (s.writeBack32 rn b).r[i] := by
  have h := (writeLoaded_spec (listed l) v (s.writeBack32 rn b)).2 i.val i.isLt
  simp only [mem_listed, BitVec.getLsbD_eq_getElem (show i.val < 16 by omega)] at h
  exact h

theorem setR_frame (s : State) (i : Fin 16) (v : Word) : s.setR i v = { s with r := (s.setR i v).r } := by
  by_cases h : i.val < 15
  · rw [State.setR, dif_pos h]
  · rw [State.setR, dif_neg h]

theorem writeBack32_frame (rn : Fin 16) (b : Option Word) : s.writeBack32 rn b = { s with r := (s.writeBack32 rn b).r } := by
  cases b with
  | none => rfl
  | some b => exact setR_frame s rn b

/-- Settles O37: the words are loaded from the places of the list, and the registers are read off the writes. -/
theorem loadMultiple : Obligations.LoadMultiple := by
  intro f s hc hrn hl hs n start word hr
  let b : Option Word := if f.w then some (multiBase (s.rF f.rn) n f.u) else none
  let t := (s.writeBack32 f.rn b).writeLoaded ((listed f.reglist).map fun i => (i, word i.val))
  refine ⟨t, ?_, ?_, fun i => ?_⟩
  · show execF32LdmLsm f s = _
    rw [execF32LdmLsm, f32Run_pass hc, if_neg (multiple_legal hrn hl fun h => (hs h).imp_right fun h => h.imp_right fun h _ => h)]
    simp only [multipleAddr_eq, show regList f.reglist = listed f.reglist from rfl]
    rw [loadWords_ok _ _ (slots_of_listed (P := fun a => s.canRead32 s.priv a 4) hr),
      zipIdx_listed _ fun k => BitVec.ofNat 32 (s.narrowAt (start + BitVec.ofNat 32 (4 * k)) 4)]
    simp only [State.finishLoads, loadedPc_listed, BitVec.getLsbD_eq_getElem (show 15 < 16 by omega)]
    cases f.reglist[15] <;> rfl
  · rw [show t = _ from (writeLoaded_spec (listed f.reglist) (fun i => word i.val) _).1, writeBack32_frame]
  · rw [getElem_writeLoaded]
    congr 1
    cases hw : f.w with
    | false => simp [b, hw, State.writeBack32]
    | true =>
      simp only [b, hw, if_true, State.writeBack32, true_and]
      exact getElem_setR s f.rn _ i.val i.isLt

/-- Settles O38: the words of a multiple store at the places of the list. -/
theorem storeMultiple : Obligations.StoreMultiple := by
  intro f s hc hrn hl hs hm n start hw
  show ∃ m, execF32StmLsm f s = _ ∧ _
  rw [execF32StmLsm, f32Run_pass hc, if_neg (multiple_legal (isLoad := false) hrn hl fun h => (hs h).imp_right fun h => ⟨h, fun e => absurd e (by decide)⟩)]
  obtain ⟨m, h1, _, h3⟩ := storeWords_ok (s := s) ((listed f.reglist).map s.storedF) start hm (by
    rw [List.length_map]
    exact slots_of_listed (P := fun a => s.canWrite32 s.priv a 4) hw)
  simp only [multipleAddr_eq, show regList f.reglist = listed f.reglist from rfl,
    show s.storeValue = s.storedF from funext s.storeValue_eq]
  rw [show multiStart (s.rF f.rn) (listSize f.reglist) f.p f.u = start from rfl, h1]
  exact ⟨m, rfl, h3⟩

/-! ### Swaps -/

theorem swaps {f : F32.SWP} {size : Nat} (hn : size ≤ 2 ^ 32) (hc : s.passes f.cond) (hd : f.rd ≠ 15) (hrm : f.rm ≠ 15)
    (hrn : f.rn ≠ 15) :
    (s.lock = .held → swap size f s = .next s) ∧
    (s.lock = .free → Memory.wf s.mem = true → s.canRead32 s.priv (s.rF f.rn) size →
      s.canWrite32 s.priv (s.rF f.rn) size →
        ∃ m, swap size f s =
            .next (State.setR { s with mem := m } f.rd (BitVec.ofNat 32 (s.narrowAt (s.rF f.rn) size))).next4 ∧
          ReadsAs m (storedOver (Memory.get s.mem) s.cfg.endian 32 (s.rF f.rn).toNat size (s.rF f.rm).toNat)) := by
  have hlegal : ¬ (f.rd = 15 ∨ f.rm = 15 ∨ f.rn = 15) := by simp [hd, hrm, hrn]
  unfold swap
  rw [f32Run_pass hc, if_neg hlegal]
  refine ⟨fun h => by rw [h], fun h hm hr hw => ?_⟩
  rw [h]
  dsimp only
  rw [load32_ok (s := s.acquire) (acc := s.acquire.priv) hr]
  dsimp only
  rw [store32_ok (s := s.acquire) (acc := s.acquire.priv) hw]
  exact ⟨_, rfl, Memory.get_store hm _ (by decide) (BitVec.isLt _) hn _⟩

/-- Settles O39: both sizes are one shape. -/
theorem swapInstructions : Obligations.SwapInstructions :=
  fun _ _ hc hd hrm hrn => ⟨swaps (by decide) hc hd hrm hrn, swaps (by decide) hc hd hrm hrn⟩

end Sys2Proof.Machine
end

section
/-! PROOFS. F32 branches, privileged-state registers and vector transfers (45_f32_branch_system.md,
46_vector_instructions.md sections 9 to 11). -/

namespace Sys2Proof.Machine

variable {s : State}

/-! ### Branches -/

theorem targetF_eq (s : State) (imm24 : BitVec 24) :
    s.targetF imm24 = BitVec.ofInt 32 (s.ia32.toNat + 8 + 4 * imm24.toInt) := by
  have h8 : s.ia32 + 8#32 = BitVec.ofInt 32 (s.ia32.toNat + 8) := add_ofInt s.ia32 8
  rw [State.targetF, signExtend_shiftLeft, h8, ← BitVec.ofInt_add, mul_comm]
  rfl

/-- Settles O40: the target of the immediate forms is `targetF_eq`; the register forms are their meaning as written. -/
theorem branchesF32 : Obligations.BranchesF32 := by
  intro s target
  refine ⟨fun f hc => ⟨?_, ?_⟩, fun f hc => ⟨?_, ?_⟩, fun f => ?_⟩
  · show execF32BBr f s = _
    rw [execF32BBr, f32Run_pass hc, targetF_eq]
    rfl
  · show execF32BlBr f s = _
    rw [execF32BlBr, f32Run_pass hc, targetF_eq]
    rfl
  · show execF32BxMisc f s = _
    rw [execF32BxMisc, f32Run_pass hc]
  · show execF32BlxMisc f s = _
    rw [execF32BlxMisc, f32Run_pass hc]
    rfl
  · show execF32BlxBlxi f s = _
    dsimp only [execF32BlxBlxi]
    rw [targetF_eq]
    rfl

/-! ### Privileged-state registers -/

/-- The key that the fields of an instruction name. -/
def sysKey (f : F32.SYS) (c : SysCell) : Bool := c.hasKey f.opc1 f.crn f.crm f.opc2

theorem sysCell_first {f : F32.SYS} {before after : List SysCell} {c : SysCell}
    (hs : s.sysRegs = before ++ c :: after) (hkey : sysKey f c = true) (hfirst : ∀ d ∈ before, sysKey f d = false) :
    s.sysCell f = some c := by
  rw [State.sysCell, hs, List.find?_eq_some_iff_append]
  exact ⟨hkey, before, after, rfl, fun d hd => by rw [show d.hasKey _ _ _ _ = _ from hfirst d hd]; rfl⟩

theorem sysCell_none {f : F32.SYS} (h : ∀ c ∈ s.sysRegs, sysKey f c = false) : s.sysCell f = none := by
  rw [State.sysCell, List.find?_eq_none]
  exact fun c hc => Bool.eq_false_iff.1 (h c hc)

/-- The write replaces the first cell with the key and no other. -/
theorem writeCell_first {f : F32.SYS} {before after : List SysCell} {c : SysCell} (v : Word)
    (hkey : sysKey f c = true) (hfirst : ∀ d ∈ before, sysKey f d = false) :
    writeCell f.opc1 f.crn f.crm f.opc2 v (before ++ c :: after) = before ++ c.write v :: after := by
  induction before with
  | nil => exact if_pos hkey
  | cons d ds ih =>
    have hd : ¬ d.hasKey f.opc1 f.crn f.crm f.opc2 = true := Bool.eq_false_iff.1 (hfirst d List.mem_cons_self)
    rw [List.cons_append, writeCell, if_neg hd, ih fun e he => hfirst e (List.mem_cons_of_mem _ he), List.cons_append]

theorem getElem_write (c : SysCell) (v : Word) (j : Fin 32) :
    (c.write v).value[j] = if c.mask[j] then v[j] else c.value[j] := by
  simp only [SysCell.write, Fin.getElem_fin, BitVec.getElem_or, BitVec.getElem_and, BitVec.getElem_not]
  cases c.mask[j.val] <;> simp

theorem undef_sysKey {f : F32.SYS} (hc : s.passes f.cond) (h : s.sysCell f = none) :
    exec (.f32SysrSys f) s = .next s.undef ∧ exec (.f32SyswSys f) s = .next s.undef := by
  dsimp only [exec, execF32SysrSys, execF32SyswSys]
  constructor
  all_goals
    refine f32Run_undef hc ?_
    split
    · rfl
    · rw [h]

/-- Settles O41: the cell the key names is the first of the list with it, for the read and for the write. -/
theorem privilegedStateRegisters : Obligations.PrivilegedStateRegisters := by
  intro f s hc hp key
  refine ⟨fun h => ?_, fun before c after ht hs hkey hfirst => ?_⟩
  · rcases h with h | h
    · exact undef_sys hc (.inr h)
    · exact undef_sysKey hc (sysCell_none h)
  · have hlegal : ¬ (s.priv = .user ∨ f.rt = 15) := by rw [hp]; simp [ht]
    have hcell : s.sysCell f = some c := sysCell_first hs hkey hfirst
    refine ⟨?_, (c.write (s.rF f.rt)).value, ?_, fun j => getElem_write ..⟩
    · show execF32SysrSys f s = _
      rw [execF32SysrSys, f32Run_pass hc, if_neg hlegal, hcell]
      dsimp only
      exact apply_ite Host.Outcome.next ..
    · show execF32SyswSys f s = _
      rw [execF32SyswSys, f32Run_pass hc, if_neg hlegal, hcell]
      dsimp only
      rw [show writeCell _ _ _ _ _ s.sysRegs = _ from hs ▸ writeCell_first (s.rF f.rt) hkey hfirst]
      exact apply_ite Host.Outcome.next ..

/-! ### Vector transfers -/

theorem exec_vmrs {f : F32.VCTL} {v : Word} (hc : s.passes f.cond) (ht : f.rt ≠ 15)
    (h : s.vstat.readControl f.vcn = some v) : exec (.f32VmrsVctl f) s = .next (s.setR f.rt v).next4 := by
  show execF32VmrsVctl f s = _
  rw [execF32VmrsVctl, f32Run_pass hc, if_neg ht, h]

theorem exec_vmsr {f : F32.VCTL} {v : VecStatus} (hc : s.passes f.cond) (ht : f.rt ≠ 15)
    (h : s.vstat.writeControl s.priv f.vcn (s.rF f.rt) = some v) :
    exec (.f32VmsrVctl f) s = .next (State.next4 { s with vstat := v }) := by
  show execF32VmsrVctl f s = _
  rw [execF32VmsrVctl, f32Run_pass hc, if_neg ht, h]

/-- The accesses to a control register while the unit is enabled, by its number. -/
theorem readControl_on {v : VecStatus} (he : v.en = true) :
    v.readControl 1 = some v.vfsr ∧ v.readControl 2 = some v.vsat ∧ v.readControl 3 = some v.vpred :=
  ⟨if_pos he, if_pos he, if_pos he⟩

theorem writeControl_on {v : VecStatus} (he : v.en = true) (p : Priv) (x : Word) :
    v.writeControl p 1 x = some { v with ioc := x[0], len := x.extractLsb' 8 3, stride := x.extractLsb' 12 2 } ∧
    v.writeControl p 2 x = some { v with sat := x.setWidth 8 } ∧
    v.writeControl p 3 x = some { v with pred := x.setWidth 8 } :=
  ⟨if_pos he, if_pos he, if_pos he⟩

theorem control_none {v : VecStatus} {n : BitVec 4} (hn : 3 < n.toNat) (p : Priv) (x : Word) :
    v.readControl n = none ∧ v.writeControl p n x = none := by
  unfold VecStatus.readControl VecStatus.writeControl
  constructor <;> split <;> first | omega | rfl

theorem extractLsb'_eq_ofNat {w : Nat} (x : BitVec w) (i n : Nat) : x.extractLsb' i n = BitVec.ofNat n (x.toNat / 2 ^ i) := by
  apply BitVec.eq_of_toNat_eq
  rw [BitVec.extractLsb'_toNat, Nat.shiftRight_eq_div_pow, BitVec.toNat_ofNat]

theorem vxfer_join (hi lo : Word) : hi ++ lo = BitVec.ofNat 64 (hi.toNat * 2 ^ 32 + lo.toNat) := by
  apply BitVec.eq_of_toNat_eq
  rw [toNat_append_word, BitVec.toNat_ofNat, Nat.mod_eq_of_lt (by omega)]

theorem vls_legal {f : F32.VLS} (he : s.vstat.en = true) (hrn : f.w = true → f.rn ≠ 15) : ¬ vlsUndefined f s = true := by
  rw [vlsUndefined, he, Bool.not_true, Bool.false_or, Bool.and_eq_true, beq_iff_eq]
  exact fun h => hrn h.1 h.2

theorem vlsAddr_eq (f : F32.VLS) (s : State) :
    vlsAddr f s = offsetFrom (s.rF f.rn) (signedBy f.u (4 * f.imm8.toNat)) f.p f.w := by
  have h : (f.imm8.setWidth 32 <<< 2 : Word).toNat = 4 * f.imm8.toNat := by
    rw [shiftLeft_eq_ofNat, BitVec.toNat_ofNat, BitVec.toNat_setWidth]
    omega
  rw [vlsAddr, resolveSingle_eq, h]

theorem vldr_ok {f : F32.VLS} (hc : s.passes f.cond) (he : s.vstat.en = true) (hrn : f.w = true → f.rn ≠ 15)
    (hr : s.canRead32 s.priv (vlsAddr f s).address 8) :
    exec (.f32VldrVls f) s = .next ((s.setV f.vd (BitVec.ofNat 64 (s.narrowAt (vlsAddr f s).address 8))).writeBack32
      f.rn (vlsAddr f s).newBase).next4 := by
  show execF32VldrVls f s = _
  rw [execF32VldrVls, f32Run_pass hc, if_neg (vls_legal he hrn)]
  dsimp only
  rw [load32_ok hr]

theorem vstr_ok {f : F32.VLS} (hc : s.passes f.cond) (he : s.vstat.en = true) (hrn : f.w = true → f.rn ≠ 15)
    (hm : Memory.wf s.mem = true) (hw : s.canWrite32 s.priv (vlsAddr f s).address 8) :
    ∃ m, exec (.f32VstrVls f) s =
        .next (State.writeBack32 { s with mem := m } f.rn (vlsAddr f s).newBase).next4 ∧
      ReadsAs m (storedOver (Memory.get s.mem) s.cfg.endian 32 (vlsAddr f s).address.toNat 8 (s.getV f.vd).toNat) := by
  show ∃ m, execF32VstrVls f s = _ ∧ _
  rw [execF32VstrVls, f32Run_pass hc, if_neg (vls_legal he hrn)]
  dsimp only
  rw [store32_ok hw]
  exact ⟨_, rfl, Memory.get_store hm _ (by decide) (BitVec.isLt _) (by decide) _⟩

theorem vxfer_ok {f : F32.VXFER} (hc : s.passes f.cond) (he : s.vstat.en = true) (h1 : f.rt ≠ 15) (h2 : f.rt2 ≠ 15) :
    exec (.f32VmovtvVxfer f) s = .next (s.setV f.vm (s.rF f.rt2 ++ s.rF f.rt)).next4 ∧
    (f.rt ≠ f.rt2 → exec (.f32VmovfvVxfer f) s =
      .next ((s.setR f.rt ((s.getV f.vm).setWidth 32)).setR f.rt2 ((s.getV f.vm).extractLsb' 32 32)).next4) := by
  refine ⟨?_, fun h => ?_⟩
  · show execF32VmovtvVxfer f s = _
    rw [execF32VmovtvVxfer, f32Run_pass hc, if_neg (by simp [he, h1, h2])]
  · show execF32VmovfvVxfer f s = _
    rw [execF32VmovfvVxfer, f32Run_pass hc, if_neg (by simp [he, h1, h2, h])]

/-- Settles O48: each transfer is its meaning with the legal case chosen; the views and masks are read in integers. -/
theorem vectorTransfers : Obligations.VectorTransfers := by
  refine ⟨fun s => ⟨fun f hc he h1 h2 => ?_, fun f hc ht hn => ?_, fun f hc ht he => ?_⟩, fun f s hc he hrn => ?_⟩
  · obtain ⟨hto, hfrom⟩ := vxfer_ok hc he h1 h2
    refine ⟨hto.trans (by rw [vxfer_join]), fun h => (hfrom h).trans ?_⟩
    rw [setWidth_eq_ofNat, extractLsb'_eq_ofNat]
    rfl
  · refine ⟨?_, fun hp => ?_⟩
    · rw [exec_vmrs hc ht (v := s.vstat.vctl) (by rw [hn]; rfl), VecStatus.vctl]
      cases s.vstat.en <;> rfl
    · exact exec_vmsr hc ht (by rw [hn]; exact if_pos hp)
  · obtain ⟨hr1, hr2, hr3⟩ := readControl_on he
    obtain ⟨hw1, hw2, hw3⟩ := writeControl_on he s.priv (s.rF f.rt)
    refine ⟨fun hn => ⟨?_, ?_⟩, fun hn => ⟨?_, ?_⟩, fun hn => ⟨?_, ?_⟩, fun hn => ⟨?_, ?_⟩⟩
    · rw [exec_vmrs hc ht (hn ▸ hr1), VecStatus.vfsr]
      cases s.vstat.ioc <;> rfl
    · rw [exec_vmsr hc ht (hn ▸ hw1), extractLsb'_eq_ofNat, extractLsb'_eq_ofNat]
      rfl
    · rw [exec_vmrs hc ht (hn ▸ hr2), VecStatus.vsat, setWidth_eq_ofNat]
    · rw [exec_vmsr hc ht (hn ▸ hw2), setWidth_eq_ofNat]
    · rw [exec_vmrs hc ht (hn ▸ hr3), VecStatus.vpred, setWidth_eq_ofNat]
    · rw [exec_vmsr hc ht (hn ▸ hw3), setWidth_eq_ofNat]
    · exact undef_vmrs hc (.inr (control_none hn s.priv (s.rF f.rt)).1)
    · exact undef_vmsr hc (.inr (control_none hn s.priv (s.rF f.rt)).2)
  · exact ⟨vlsAddr_eq f s, vldr_ok hc he hrn, vstr_ok hc he hrn⟩

end Sys2Proof.Machine
end

section
/-! PROOFS. Lane operations (46_vector_instructions.md sections 2 to 8): the shapes leave a join of lanes, read back lane
by lane; the lane functions are then compared with exact integers modulo the lane. -/

namespace Sys2Proof.Machine

variable {s : State} {f : F32.VOP}

/-! ### Lists of lanes -/

theorem getD_eachLane {α : Type} (n : Nat) (g : Nat → α) (j : Nat) (d : α) :
    (eachLane n g).getD j d = if j < n then g j else d := by
  rw [eachLane, List.getD_eq_getElem?_getD, List.getElem?_map]
  by_cases h : j < n
  · rw [List.getElem?_range h, if_pos h]
    rfl
  · rw [List.getElem?_eq_none (by rw [List.length_range]; omega), if_neg h]
    rfl

theorem length_eachLane {α : Type} (n : Nat) (g : Nat → α) : (eachLane n g).length = n := by
  rw [eachLane, List.length_map, List.length_range]

theorem map_eachLane {α β : Type} (n : Nat) (g : Nat → α) (h : α → β) :
    (eachLane n g).map h = eachLane n fun j => h (g j) := by
  rw [eachLane, List.map_map]
  rfl

theorem append_eachLane {α : Type} (n : Nat) (g h : Nat → α) :
    eachLane n g ++ eachLane n h = eachLane (2 * n) fun j => if j < n then g j else h (j - n) := by
  apply List.ext_getElem
  · rw [List.length_append, length_eachLane, length_eachLane, length_eachLane]
    omega
  · intro j _ _
    rw [List.getElem_append]
    simp only [eachLane, List.length_map, List.length_range, List.getElem_map, List.getElem_range, dite_eq_ite]

/-- A lane of a join. -/
theorem lane_join {w n : Nat} (hw : w * n = 64) (g : Nat → Nat) {j : Nat} (hj : j < n) :
    lane (joinLanes w (eachLane n g)) w j = g j % 2 ^ w := by
  rw [lane_joinLanes (by rw [length_eachLane, hw]), getD_eachLane, if_pos hj]

/-- A bit of a lane mask. -/
theorem getLsbD_mask {n : Nat} (hn : n ≤ 8) (g : Nat → Bool) (j : Nat) :
    (laneMask (eachLane n g)).getLsbD j = if j < n then g j else false := by
  rw [getLsbD_laneMask (by rw [length_eachLane]; exact hn), getD_eachLane]

/-! ### Widths -/

theorem width_mul_count (sz : BitVec 2) : laneWidth sz * laneCount (laneWidth sz) = 64 := by
  revert sz; decide

theorem count_le (sz : BitVec 2) : laneCount (laneWidth sz) ≤ 8 := by
  revert sz; decide

theorem width_pos (sz : BitVec 2) : 8 ≤ laneWidth sz := by
  revert sz; decide

/-- Lanes twice as wide: half as many. -/
theorem double_mul_half {sz : BitVec 2} (h : sz ≠ 3) : 2 * laneWidth sz * (laneCount (laneWidth sz) / 2) = 64 := by
  revert sz; decide

/-- Lanes half as wide: twice as many. -/
theorem half_mul_double {sz : BitVec 2} (h : sz ≠ 0) :
    laneWidth sz / 2 * (2 * laneCount (laneWidth sz)) = 64 ∧ 64 / (laneWidth sz / 2) = 2 * laneCount (laneWidth sz) ∧
      2 * laneCount (laneWidth sz) ≤ 8 ∧ 0 < laneWidth sz / 2 := by
  revert sz; decide

theorem szIn_of {lo hi : Nat} (h1 : lo ≤ f.sz.toNat) (h2 : f.sz.toNat ≤ hi) : szIn f lo hi = true := by
  rw [szIn, decide_eq_true h1, decide_eq_true h2]
  rfl

theorem szWiden_of (h : f.sz ≠ 3) : szWiden f = true := by
  have : f.sz.toNat ≠ 3 := fun e => h (BitVec.eq_of_toNat_eq e)
  exact szIn_of (by omega) (by omega)

theorem szNarrow_of (h : f.sz ≠ 0) : szNarrow f = true := by
  have : f.sz.toNat ≠ 0 := fun e => h (BitVec.eq_of_toNat_eq e)
  exact szIn_of (by omega) (by omega)

/-! ### Results without a status bit -/

/-- A lane operation that writes one register with lanes of `w` bits, exact up to the lane. -/
def LanesWritten (i : Instr) (s : State) (vd : Fin 16) (w n : Nat) (v : Nat → Int) : Prop :=
  ∃ c : DWord, exec i s = .next (s.setV vd c).next4 ∧ ∀ j, j < n → (lane c w j : Int) = v j % 2 ^ w

theorem laneCell_pass {legal : F32.VOP → Bool} (hc : s.passes f.cond) (hl : s.lanesOn) (h : legal f = true)
    (op : DWord → DWord → DWord) :
    laneCell legal op f s = .next (s.setV f.vd (op (s.getV f.vn) (s.getV f.vm))).next4 :=
  laneRun_pass hc hl h _

theorem lanes_of_cell {i : Instr} {legal : F32.VOP → Bool} {op : DWord → DWord → DWord} {w n : Nat} {v : Nat → Int}
    {g : Nat → Nat} (hc : s.passes f.cond) (hl : s.lanesOn) (hi : exec i s = laneCell legal op f s)
    (h : legal f = true) (hop : op (s.getV f.vn) (s.getV f.vm) = joinLanes w (eachLane n g)) (hw : w * n = 64)
    (hv : ∀ j, (g j : Int) % 2 ^ w = v j % 2 ^ w) : LanesWritten i s f.vd w n v := by
  refine ⟨_, hi.trans (laneCell_pass hc hl h op), fun j hj => ?_⟩
  rw [hop, lane_join hw g hj, ← hv j]
  push_cast
  rfl

theorem lanes_of_map {i : Instr} {legal : F32.VOP → Bool} {op : Nat → Nat → Nat → Nat} {v : Nat → Int}
    (hc : s.passes f.cond) (hl : s.lanesOn) (hi : exec i s = laneMap legal op f s) (h : legal f = true)
    (hv : ∀ j, (op (laneWidth f.sz) (s.laneOf f.vn (laneWidth f.sz) j) (s.laneOf f.vm (laneWidth f.sz) j) : Int)
      % 2 ^ laneWidth f.sz = v j % 2 ^ laneWidth f.sz) :
    LanesWritten i s f.vd (laneWidth f.sz) (laneCount (laneWidth f.sz)) v :=
  lanes_of_cell (legal := legal) (op := fun a b => joinLanes (laneWidth f.sz) (eachLane (laneCount (laneWidth f.sz)) fun j =>
    op (laneWidth f.sz) (lane a (laneWidth f.sz) j) (lane b (laneWidth f.sz) j))) hc hl (hi.trans rfl) h rfl
    (width_mul_count f.sz) hv

/-! ### The lane functions, modulo the lane -/

theorem addLane_emod (w : Nat) (g : Bool) (x y : Nat) :
    (((x + y) % 2 ^ w : Nat) : Int) % 2 ^ w = (laneVal w g x + laneVal w g y) % 2 ^ w := by
  rw [Int.add_emod (laneVal w g x), laneVal_emod, laneVal_emod, ← Int.add_emod]
  push_cast
  exact Int.emod_emod ..

theorem wrapLane_emod (w : Nat) (v : Int) : ((wrapLane w v : Nat) : Int) % 2 ^ w = v % 2 ^ w := by
  rw [wrapLane_cast, Int.emod_emod]

theorem subLane_emod (w : Nat) (g : Bool) (x y : Nat) :
    ((wrapLane w ((x : Int) - y) : Nat) : Int) % 2 ^ w = (laneVal w g x - laneVal w g y) % 2 ^ w := by
  rw [wrapLane_emod, Int.sub_emod (laneVal w g x), laneVal_emod, laneVal_emod, ← Int.sub_emod]

theorem laneAmount_eq (x : Nat) : laneAmount x = (BitVec.ofNat 8 x).toInt := by
  rw [laneAmount, laneVal, BitVec.toInt_eq_toNat_cond, BitVec.toNat_ofNat]
  simp only [Bool.true_and, decide_eq_true_eq]
  norm_num
  split <;> split <;> omega

/-- The shift of a lane by a signed amount, before the reduction to the lane (41_lane_semantics.md R191). -/
def shiftedVal (rounding : Bool) (v n : Int) : Int :=
  if n = 0 then v
  else if n < 0 then v * 2 ^ (-n).toNat
  else (v + (if rounding then 2 ^ (n.toNat - 1) else 0)) / 2 ^ n.toNat

theorem laneShr_emod (w : Nat) (g r : Bool) (x : Nat) (n : Int) :
    ((laneShr w g r x n : Nat) : Int) % 2 ^ w = shiftedVal r (laneVal w g x) n % 2 ^ w := by
  unfold laneShr shiftedVal
  by_cases h0 : n = 0
  · rw [if_pos h0, if_pos h0, laneVal_emod]
  · rw [if_neg h0, if_neg h0]
    by_cases hn : n < 0
    · rw [if_pos hn, if_pos hn, Int.mul_emod (laneVal w g x), laneVal_emod, ← Int.mul_emod,
        show n.natAbs = (-n).toNat by omega]
      push_cast
      exact Int.emod_emod ..
    · rw [if_neg hn, if_neg hn]
      exact wrapLane_emod ..

theorem mulHigh_emod (w : Nat) (g r : Bool) (x y : Nat) : ((mulHigh w g r x y : Nat) : Int) % 2 ^ w =
    ((laneVal w g x * laneVal w g y + (if r then 2 ^ (w - 1) else 0)) / 2 ^ w) % 2 ^ w := wrapLane_emod ..

/-- Settles O42: six maps over the lanes, each with its function modulo the lane. -/
theorem laneArithmetic : Obligations.LaneArithmetic := by
  intro f s hc hl w writes a b amount shifted
  refine ⟨fun hu => ⟨?_, ?_⟩, ⟨?_, ?_⟩, fun h3 => ⟨?_, ?_⟩⟩
  · refine lanes_of_map (legal := szAny0) (op := fun w a b => (a + b) % 2 ^ w)
      hc hl rfl ?_ fun j => ?_
    · rw [szAny0, hu]
      rfl
    · exact addLane_emod ..
  · refine lanes_of_map (legal := szAny0) (op := fun w a b => wrapLane w ((a : Int) - (b : Int)))
      hc hl rfl ?_ fun j => ?_
    · rw [szAny0, hu]
      rfl
    · exact subLane_emod ..
  · refine lanes_of_map (legal := szAny) (op := fun w a b => laneShr w (signedOp f) false a (laneAmount b))
      hc hl rfl rfl fun j => ?_
    exact (laneShr_emod ..).trans (by rw [laneAmount_eq]; rfl)
  · refine lanes_of_map (legal := szAny) (op := fun w a b => laneShr w (signedOp f) true a (laneAmount b))
      hc hl rfl rfl fun j => ?_
    exact (laneShr_emod ..).trans (by rw [laneAmount_eq]; rfl)
  · refine lanes_of_map (legal := szWiden) (op := fun w a b => mulHigh w (signedOp f) false a b)
      hc hl rfl (szWiden_of h3) fun j => ?_
    exact (mulHigh_emod ..).trans (by rw [if_neg Bool.false_ne_true, add_zero]; rfl)
  · refine lanes_of_map (legal := szWiden) (op := fun w a b => mulHigh w (signedOp f) true a b)
      hc hl rfl (szWiden_of h3) fun j => ?_
    exact mulHigh_emod ..

/-! ### Widening -/

/-- Lanes twice as wide as those of the operands, each an exact integer reduced to its width. -/
theorem lanes_of_wide {i : Instr} {v v' : Nat → Int} (h3 : f.sz ≠ 3)
    (hi : exec i s = .next (s.setV f.vd (joinLanes (2 * laneWidth f.sz)
      (eachLane (laneCount (laneWidth f.sz) / 2) fun j => wrapLane (2 * laneWidth f.sz) (v' j)))).next4)
    (hv : ∀ j, v' j = v j) :
    LanesWritten i s f.vd (2 * laneWidth f.sz) (laneCount (laneWidth f.sz) / 2) v := by
  refine ⟨_, hi, fun j hj => ?_⟩
  rw [lane_join (double_mul_half h3) _ hj, ← hv j]
  push_cast
  exact wrapLane_emod ..

theorem laneWiden_pass (hc : s.passes f.cond) (hl : s.lanesOn) (h : szWiden f = true) (top : Bool) :
    laneWiden top f s = .next (s.setV f.vd (joinLanes (2 * laneWidth f.sz)
      (eachLane (laneCount (laneWidth f.sz) / 2) fun j => wrapLane (2 * laneWidth f.sz)
        (let k := if top then j + laneCount (laneWidth f.sz) / 2 else j
        s.laneInt f.vn (laneWidth f.sz) (!f.u) k * s.laneInt f.vm (laneWidth f.sz) (!f.u) k)))).next4 := by
  unfold laneWiden
  exact laneCell_pass hc hl h _

theorem laneDot_pass (hc : s.passes f.cond) (hl : s.lanesOn) (h : szWiden f = true) (acc : State → Nat → Nat) :
    laneDot acc f s = .next (s.setV f.vd (joinLanes (2 * laneWidth f.sz)
      (eachLane (laneCount (laneWidth f.sz) / 2) fun j => wrapLane (2 * laneWidth f.sz)
        (acc s j + s.laneInt f.vn (laneWidth f.sz) (!f.u) (2 * j) * s.laneInt f.vm (laneWidth f.sz) (!f.u) (2 * j)
          + s.laneInt f.vn (laneWidth f.sz) (!f.u) (2 * j + 1) * s.laneInt f.vm (laneWidth f.sz) (!f.u) (2 * j + 1))))
      ).next4 := by
  unfold laneDot
  exact laneCell_pass hc hl h _

theorem laneUnpack_pass (hc : s.passes f.cond) (hl : s.lanesOn) (h : szUnpack f = true) (top : Bool) :
    laneCell szUnpack (fun a _ => unpack (laneWidth f.sz) (signedOp f) top a) f s =
      .next (s.setV f.vd (joinLanes (2 * laneWidth f.sz)
        (eachLane (laneCount (laneWidth f.sz) / 2) fun j => wrapLane (2 * laneWidth f.sz)
          (s.laneInt f.vn (laneWidth f.sz) (!f.u) (if top then j + laneCount (laneWidth f.sz) / 2 else j))))).next4 :=
  laneCell_pass hc hl h _

theorem szUnpack_of (h3 : f.sz ≠ 3) (hm : f.vm = 0) : szUnpack f = true := by
  rw [szUnpack, show szIn f 0 2 = true from szWiden_of h3, hm]
  rfl

/-- Settles O44: each of the lanes is an exact integer reduced to the double width. -/
theorem laneWidening : Obligations.LaneWidening := by
  intro f s hc hl h3 w h a b writes dot
  have hlegal : szWiden f = true := szWiden_of h3
  refine ⟨?_, ?_, ?_, ?_, fun hm => ?_⟩
  · exact lanes_of_wide h3 (laneWiden_pass hc hl hlegal false) fun j => rfl
  · exact lanes_of_wide h3 (laneWiden_pass hc hl hlegal true) fun j => rfl
  · refine lanes_of_wide h3 (laneDot_pass hc hl hlegal fun _ _ => 0) fun j => ?_
    rw [Nat.cast_zero, zero_add]
    rfl
  · exact lanes_of_wide h3 (laneDot_pass hc hl hlegal fun s j => s.laneOf f.vd (2 * laneWidth f.sz) j)
      fun j => add_assoc ..
  · have hunpack : szUnpack f = true := szUnpack_of h3 hm
    exact ⟨lanes_of_wide h3 (laneUnpack_pass hc hl hunpack false) fun j => rfl,
      lanes_of_wide h3 (laneUnpack_pass hc hl hunpack true) fun j => rfl⟩

end Sys2Proof.Machine
end

section
/-! PROOFS. Lane operations that rearrange, clamp or compare (46_vector_instructions.md sections 2, 5 to 8): the lanes of
the result and the lane mask that goes to `VSAT` or `VPRED`. -/

namespace Sys2Proof.Machine

variable {s : State} {f : F32.VOP}

/-! ### Rearrangement -/

theorem zipLanes_lane {sz : BitVec 2} (top : Bool) (a b : DWord) {j : Nat} (hj : j < laneCount (laneWidth sz) / 2) :
    lane (zipLanes (laneWidth sz) top a b) (laneWidth sz) (2 * j) =
      lane a (laneWidth sz) (if top then j + laneCount (laneWidth sz) / 2 else j) ∧
    lane (zipLanes (laneWidth sz) top a b) (laneWidth sz) (2 * j + 1) =
      lane b (laneWidth sz) (if top then j + laneCount (laneWidth sz) / 2 else j) := by
  have heven : 2 * j % 2 = 0 := by omega
  have hodd : ¬ (2 * j + 1) % 2 = 0 := by omega
  dsimp only [zipLanes]
  rw [lane_join (width_mul_count sz) _ (by omega), lane_join (width_mul_count sz) _ (by omega),
    Nat.mod_eq_of_lt (lane_lt ..), Nat.mod_eq_of_lt (lane_lt ..), if_pos heven, if_neg hodd,
    show 2 * j / 2 = j by omega, show (2 * j + 1) / 2 = j by omega]
  exact ⟨rfl, rfl⟩

theorem packLanes_eq (w : Nat) (a b : DWord) : packLanes w a b =
    eachLane (2 * laneCount w) fun j => if j < laneCount w then lane a w j else lane b w (j - laneCount w) :=
  append_eachLane ..

/-- Settles O45: the lanes of a pack and of a zip are those of the operands, by their place. -/
theorem laneRearrangement : Obligations.LaneRearrangement := by
  intro f s hc hl hu w n
  refine ⟨fun h0 => ?_, fun h3 => ?_, fun h0 => ?_⟩
  · have hlegal : szNarrow0 f = true := by rw [szNarrow0, hu, show szIn f 1 3 = true from szNarrow_of h0]; rfl
    obtain ⟨hw, -, -, -⟩ := half_mul_double h0
    refine ⟨_, laneCell_pass (legal := szNarrow0) hc hl hlegal fun a b => joinLanes (laneWidth f.sz / 2)
      ((packLanes (laneWidth f.sz) a b).map (truncNarrow (laneWidth f.sz))), fun j hj => ?_⟩
    rw [packLanes_eq, map_eachLane]
    exact (lane_join hw _ hj).trans (Nat.mod_mod ..)
  · have hlegal : szWiden0 f = true := by rw [szWiden0, hu, show szIn f 0 2 = true from szWiden_of h3]; rfl
    refine ⟨⟨_, laneCell_pass (legal := szWiden0) hc hl hlegal (zipLanes (laneWidth f.sz) false),
        fun j hj => zipLanes_lane false _ _ hj⟩,
      ⟨_, laneCell_pass (legal := szWiden0) hc hl hlegal (zipLanes (laneWidth f.sz) true), fun j hj => ?_⟩⟩
    rw [Nat.add_comm (n / 2)]
    exact zipLanes_lane true _ _ hj
  · have hlegal : szWhole f = true := by rw [szWhole, hu, h0]; rfl
    exact ⟨laneCell_pass (legal := szWhole) hc hl hlegal fun a b => a &&& b,
      laneCell_pass (legal := szWhole) hc hl hlegal fun a b => a ||| b,
      laneCell_pass (legal := szWhole) hc hl hlegal fun a b => a ^^^ b⟩

/-! ### Saturation -/

theorem laneSat_pass {legal : F32.VOP → Bool} (hc : s.passes f.cond) (hl : s.lanesOn) (h : legal f = true) (w : Nat)
    (op : DWord → DWord → List (Nat × Bool)) :
    laneSat legal w op f s = .next ((s.setV f.vd (joinLanes w ((op (s.getV f.vn) (s.getV f.vm)).map Prod.fst))).recordSat
      (laneMask ((op (s.getV f.vn) (s.getV f.vm)).map Prod.snd))).next4 :=
  laneRun_pass hc hl h _

/-- The lanes and the mask of clamped integers. -/
theorem lanes_of_sat {i : Instr} {legal : F32.VOP → Bool} {op : DWord → DWord → List (Nat × Bool)} {w n : Nat}
    {g : Bool} {v : Nat → Int} (hc : s.passes f.cond) (hl : s.lanesOn) (hi : exec i s = laneSat legal w op f s)
    (h : legal f = true) (hn : w * n = 64) (hn8 : n ≤ 8) (hw : 0 < w)
    (hop : op (s.getV f.vn) (s.getV f.vm) = eachLane n fun j => clampLane w g (v j)) :
    ∃ (c : DWord) (m : BitVec 8),
      exec i s = .next (State.next4 { s.setV f.vd c with
        vstat := { s.vstat with sat := s.vstat.sat ||| m }
        flags := { s.flags with q := s.flags.q || decide (m ≠ 0) } }) ∧
      (∀ j, j < n → laneVal w g (lane c w j) = nearest w g (v j) ∧ m.getLsbD j = overflows w g (v j)) ∧
      (∀ j, n ≤ j → m.getLsbD j = false) := by
  rw [hi, laneSat_pass hc hl h, hop, map_eachLane, map_eachLane]
  refine ⟨joinLanes w (eachLane n fun j => (clampLane w g (v j)).1),
    laneMask (eachLane n fun j => (clampLane w g (v j)).2), ?_, fun j hj => ?_, fun j hj => ?_⟩
  · rw [State.recordSat, show ∀ m : BitVec 8, (m != 0) = decide (m ≠ 0) from fun m =>
      Bool.eq_iff_iff.2 (by rw [bne_iff_ne, decide_eq_true_iff])]
    rfl
  · obtain ⟨h1, h2, h3⟩ := clampLane_spec hw g (v j)
    rw [lane_join hn _ hj, Nat.mod_eq_of_lt h3, getLsbD_mask hn8, if_pos hj]
    exact ⟨h1, h2⟩
  · rw [getLsbD_mask hn8, if_neg (by omega)]

/-- Settles O43: the lanes of each are clamps of exact integers. -/
theorem laneSaturation : Obligations.LaneSaturation := by
  intro f s hc hl w g writes
  have hw : 0 < laneWidth f.sz := lt_of_lt_of_le (by decide) (width_pos f.sz)
  refine ⟨?_, ?_, fun h0 => ?_⟩
  · exact lanes_of_sat (legal := szAny) (op := fun a b => eachLane (laneCount (laneWidth f.sz)) fun j =>
      satAdd (laneWidth f.sz) (signedOp f) (lane a (laneWidth f.sz) j) (lane b (laneWidth f.sz) j))
      hc hl rfl rfl (width_mul_count f.sz) (count_le f.sz) hw rfl
  · exact lanes_of_sat (legal := szAny) (op := fun a b => eachLane (laneCount (laneWidth f.sz)) fun j =>
      satSub (laneWidth f.sz) (signedOp f) (lane a (laneWidth f.sz) j) (lane b (laneWidth f.sz) j))
      hc hl rfl rfl (width_mul_count f.sz) (count_le f.sz) hw rfl
  · obtain ⟨hn, hcount, hn8, hw2⟩ := half_mul_double h0
    dsimp only [writes]
    rw [show 64 / (w / 2) = 2 * laneCount (laneWidth f.sz) from hcount]
    refine lanes_of_sat (legal := szNarrow) (op := fun a b => (packLanes (laneWidth f.sz) a b).map
      (satNarrow (laneWidth f.sz) (signedOp f))) hc hl rfl (szNarrow_of h0) hn hn8 hw2 ?_
    rw [packLanes_eq, map_eachLane]
    exact congrArg _ (funext fun j => congrArg (clampLane (laneWidth f.sz / 2) (!f.u)) (apply_ite ..))

/-! ### Compares -/

/-- The lanes of a mask. -/
theorem maskLanes_lane {w n : Nat} (hw : w * n = 64) (t : Nat → Bool) {j : Nat} (hj : j < n) :
    lane (maskLanes w (eachLane n t)) w j = if t j then 2 ^ w - 1 else 0 := by
  have hpos : 0 < 2 ^ w := Nat.two_pow_pos w
  rw [maskLanes, map_eachLane, lane_join hw _ hj, Nat.mod_eq_of_lt]
  split
  · exact Nat.sub_lt hpos Nat.one_pos
  · exact hpos

/-- What a mask and its predicate bits hold. -/
theorem mask_spec (sz : BitVec 2) (t : Nat → Bool) :
    (∀ j, j < laneCount (laneWidth sz) →
      lane (maskLanes (laneWidth sz) (eachLane (laneCount (laneWidth sz)) t)) (laneWidth sz) j =
          (if t j then 2 ^ laneWidth sz - 1 else 0) ∧
        (laneMask (eachLane (laneCount (laneWidth sz)) t)).getLsbD j = t j) ∧
    (∀ j, laneCount (laneWidth sz) ≤ j → (laneMask (eachLane (laneCount (laneWidth sz)) t)).getLsbD j = false) := by
  refine ⟨fun j hj => ⟨maskLanes_lane (width_mul_count sz) t hj, ?_⟩, fun j hj => ?_⟩
  · rw [getLsbD_mask (count_le sz), if_pos hj]
  · rw [getLsbD_mask (count_le sz), if_neg (by omega)]

theorem lanes_of_compare {i : Instr} {legal : F32.VOP → Bool} {test : Nat → Nat → Nat → Bool} {t : Nat → Bool}
    (hc : s.passes f.cond) (hl : s.lanesOn) (hi : exec i s = laneCompare legal test f s) (h : legal f = true)
    (ht : ∀ j, test (laneWidth f.sz) (s.laneOf f.vn (laneWidth f.sz) j) (s.laneOf f.vm (laneWidth f.sz) j) = t j) :
    ∃ (c : DWord) (p : BitVec 8),
      exec i s = .next (State.next4 { s.setV f.vd c with vstat := { s.vstat with pred := p } }) ∧
      (∀ j, j < laneCount (laneWidth f.sz) →
        lane c (laneWidth f.sz) j = (if t j then 2 ^ laneWidth f.sz - 1 else 0) ∧ p.getLsbD j = t j) ∧
      (∀ j, laneCount (laneWidth f.sz) ≤ j → p.getLsbD j = false) := by
  obtain ⟨hlanes, habove⟩ := mask_spec f.sz t
  refine ⟨_, _, ?_, hlanes, habove⟩
  rw [hi, laneCompare, laneRun_pass hc hl h,
    show t = fun j => test (laneWidth f.sz) (s.laneOf f.vn (laneWidth f.sz) j) (s.laneOf f.vm (laneWidth f.sz) j)
      from funext fun j => (ht j).symm]
  rfl

/-- Equal exact values are equal patterns. -/
theorem laneVal_inj {w : Nat} {g : Bool} {x y : Nat} (hx : x < 2 ^ w) (hy : y < 2 ^ w) :
    laneVal w g x = laneVal w g y ↔ x = y := by
  refine ⟨fun h => ?_, fun h => by rw [h]⟩
  have hmod : (x : Int) % 2 ^ w = (y : Int) % 2 ^ w := by rw [← laneVal_emod w g x, ← laneVal_emod w g y, h]
  have : x % 2 ^ w = y % 2 ^ w := by exact_mod_cast hmod
  rwa [Nat.mod_eq_of_lt hx, Nat.mod_eq_of_lt hy] at this

/-- Settles O46: equality of patterns is equality of the exact values; the two orders compare these as they are. -/
theorem laneCompares : Obligations.LaneCompares := by
  intro f s hc hl w a b writes
  refine ⟨fun hu => ?_, ?_, ?_⟩
  · refine lanes_of_compare (legal := szAny0) (test := fun _ a b => a == b) hc hl rfl (by rw [szAny0, hu]; rfl) fun j => ?_
    rw [Bool.eq_iff_iff, beq_iff_eq, decide_eq_true_iff]
    exact (laneVal_inj (lane_lt ..) (lane_lt ..)).symm
  · exact lanes_of_compare (legal := szAny)
      (test := fun w a b => decide (laneVal w (signedOp f) b < laneVal w (signedOp f) a)) hc hl rfl rfl fun j => rfl
  · exact lanes_of_compare (legal := szAny)
      (test := fun w a b => decide (laneVal w (signedOp f) b ≤ laneVal w (signedOp f) a)) hc hl rfl rfl fun j => rfl

/-! ### Float compares -/

theorem any_eachLane {α : Type} (n : Nat) (g : Nat → α) (p : α → Bool) :
    (eachLane n g).any p = true ↔ ∃ j, j < n ∧ p (g j) = true := by
  simp only [eachLane, List.any_map, List.any_eq_true, List.mem_range, Function.comp_apply]

theorem lanes_of_float {i : Instr} {cmp : Nat → Nat → Nat → FloatRel × Bool} {test : FloatRel → Bool}
    {r : Nat → FloatRel × Bool} (hc : s.passes f.cond) (hl : s.lanesOn) (hi : exec i s = laneFloat cmp test f s)
    (h : szFloat f = true)
    (hr : ∀ j, cmp (laneWidth f.sz) (s.laneOf f.vn (laneWidth f.sz) j) (s.laneOf f.vm (laneWidth f.sz) j) = r j) :
    ∃ (c : DWord) (p : BitVec 8) (inv : Bool),
      exec i s = .next (State.next4 { s.setV f.vd c with
        vstat := { s.vstat with pred := p, ioc := s.vstat.ioc || inv } }) ∧
      (∀ j, j < laneCount (laneWidth f.sz) →
        lane c (laneWidth f.sz) j = (if test (r j).1 then 2 ^ laneWidth f.sz - 1 else 0) ∧
          p.getLsbD j = test (r j).1) ∧
      (∀ j, laneCount (laneWidth f.sz) ≤ j → p.getLsbD j = false) ∧
      (inv = true ↔ ∃ j, j < laneCount (laneWidth f.sz) ∧ (r j).2 = true) := by
  obtain ⟨hlanes, habove⟩ := mask_spec f.sz fun j => test (r j).1
  refine ⟨_, _, _, ?_, hlanes, habove, any_eachLane _ r Prod.snd⟩
  rw [hi, laneFloat, laneRun_pass hc hl h, ← map_eachLane _ r fun q => test q.1, ← show _ = r from funext hr]
  rfl

theorem flags_of_float (hc : s.passes f.cond) (hl : s.lanesOn) (h : szFloatFlags f = true) (quiet : Bool) :
    laneFloatFlags quiet f s =
      let w := laneWidth f.sz
      let r := floatCompare w quiet (s.laneOf f.vn w 0) (s.laneOf f.vm w 0)
      .next (State.next4 { s with vstat := { s.vstat with ioc := s.vstat.ioc || r.2 }, flags := s.flags.ofRel r.1 }) := by
  rw [laneFloatFlags, laneRun_pass hc hl h]
  rfl

/-- Settles O47: five masks by the relation of the lanes, two results in the flags. -/
theorem floatCompares : Obligations.FloatCompares := by
  intro f s hc hl hu hsz w a b writes flags
  have hlegal : szFloat f = true := by rw [szFloat, hu, szIn_of hsz (by omega)]; rfl
  refine ⟨?_, ?_, ?_, ?_, ?_, fun hd => ?_⟩
  · exact lanes_of_float (test := FloatRel.isEq) (cmp := fun w => floatCompare w true) hc hl rfl hlegal fun j => rfl
  · exact lanes_of_float (test := FloatRel.isGe) (cmp := fun w => floatCompare w false) hc hl rfl hlegal fun j => rfl
  · exact lanes_of_float (test := FloatRel.isGt) (cmp := fun w => floatCompare w false) hc hl rfl hlegal fun j => rfl
  · exact lanes_of_float (test := FloatRel.isGe) (cmp := absCompare) hc hl rfl hlegal fun j => rfl
  · exact lanes_of_float (test := FloatRel.isGt) (cmp := absCompare) hc hl rfl hlegal fun j => rfl
  · have hlegal : szFloatFlags f = true := by rw [szFloatFlags, hu, szIn_of hsz (by omega), hd]; rfl
    have hflags (r : FloatRel) : s.flags.ofRel r = (match r with
        | .equal => ⟨false, true, true, false, s.flags.q⟩
        | .less => ⟨true, false, false, false, s.flags.q⟩
        | .greater => ⟨false, false, true, false, s.flags.q⟩
        | .unordered => ⟨false, false, true, true, s.flags.q⟩) := by cases r <;> rfl
    refine ⟨(flags_of_float hc hl hlegal true).trans ?_, (flags_of_float hc hl hlegal false).trans ?_⟩
    · dsimp only
      rw [hflags]
      rfl
    · dsimp only
      rw [hflags]
      rfl

end Sys2Proof.Machine
end

section
/-! PROOFS. The floating-point compare against the exact values (41_lane_semantics.md R200, R201): `floatVal` is the
rational value in units of the smallest subnormal, and an infinity lies outside every finite number. -/

namespace Sys2Proof.Machine

/-! ### The fields of a pattern -/

/-- The fraction and the exponent leave room for the sign. -/
def FloatWidth (w : Nat) : Prop := 0 < fracBits w ∧ fracBits w < w - 1

theorem floatWidth_of (hw : w = 32 ∨ w = 64) : FloatWidth w := by
  rcases hw with rfl | rfl <;> exact ⟨by decide, by decide⟩

variable {w x y : Nat}

theorem floatExp_lt (w x : Nat) : floatExp w x < 2 ^ (w - 1 - fracBits w) := Nat.mod_lt _ (Nat.two_pow_pos _)

theorem floatFrac_lt (w x : Nat) : floatFrac w x < 2 ^ fracBits w := Nat.mod_lt _ (Nat.two_pow_pos _)

theorem width_pow (hw : FloatWidth w) : 2 ^ w = 2 * 2 ^ (w - 1) := by
  obtain ⟨_, _⟩ := hw
  rw [← pow_succ']
  congr 1
  omega

/-- The sign bit. -/
theorem sign_iff (hw : FloatWidth w) (hx : x < 2 ^ w) : x / 2 ^ (w - 1) % 2 = 1 ↔ 2 ^ (w - 1) ≤ x := by
  rw [width_pow hw] at hx
  have hlt : x / 2 ^ (w - 1) < 2 := Nat.div_lt_of_lt_mul (by rwa [Nat.mul_comm] at hx)
  rw [Nat.mod_eq_of_lt hlt]
  constructor
  · intro h
    by_contra hc
    rw [Nat.div_eq_of_lt (by omega)] at h
    omega
  · intro h
    have hge : 1 ≤ x / 2 ^ (w - 1) :=
      (Nat.le_div_iff_mul_le (Nat.two_pow_pos (w - 1))).2 (by rw [Nat.one_mul]; exact h)
    omega

/-- A pattern is its sign, exponent and fraction. -/
theorem floatFields (hw : FloatWidth w) (hx : x < 2 ^ w) :
    x = (if 2 ^ (w - 1) ≤ x then 2 ^ (w - 1) else 0) + 2 ^ fracBits w * floatExp w x + floatFrac w x := by
  obtain ⟨_, hf⟩ := id hw
  have hsplit : 2 ^ (w - 1) = 2 ^ fracBits w * 2 ^ (w - 1 - fracBits w) := by
    rw [← pow_add]
    congr 1
    omega
  have hlow : x % 2 ^ (w - 1) = 2 ^ fracBits w * floatExp w x + floatFrac w x := by
    rw [hsplit, Nat.mod_mul, floatExp, floatFrac, Nat.add_comm]
  have hhigh : x % 2 ^ (w - 1) = x - (if 2 ^ (w - 1) ≤ x then 2 ^ (w - 1) else 0) := by
    rw [width_pow hw] at hx
    by_cases hs : 2 ^ (w - 1) ≤ x
    · rw [if_pos hs, Nat.mod_eq_sub_mod hs, Nat.mod_eq_of_lt (by omega)]
    · rw [if_neg hs, Nat.mod_eq_of_lt (by omega), Nat.sub_zero]
  have hle : (if 2 ^ (w - 1) ≤ x then 2 ^ (w - 1) else 0) ≤ x := by split <;> omega
  omega

/-! ### NaNs and infinities -/

theorem isFinite_eq_false : isFinite w x = false ↔ floatExp w x = 2 ^ (w - 1 - fracBits w) - 1 := by
  rw [isFinite, bne_eq_false_iff_eq]
  rfl

theorem isNaN_iff : isNaN w x = true ↔ isFinite w x = false ∧ x % 2 ^ fracBits w ≠ 0 := by
  rw [isNaN, Bool.and_eq_true, beq_iff_eq, bne_iff_ne, isFinite_eq_false]
  rfl

/-- The top fraction bit. -/
theorem isSignaling_iff (hw : FloatWidth w) :
    isSignaling w x = true ↔ (isFinite w x = false ∧ x % 2 ^ fracBits w ≠ 0) ∧ x / 2 ^ (fracBits w - 1) % 2 = 0 := by
  have htop : floatFrac w x < 2 ^ (fracBits w - 1) ↔ x / 2 ^ (fracBits w - 1) % 2 = 0 := by
    have hpos : 0 < 2 ^ (fracBits w - 1) := Nat.two_pow_pos _
    have hsplit : floatFrac w x = x % 2 ^ (fracBits w - 1) + 2 ^ (fracBits w - 1) * (x / 2 ^ (fracBits w - 1) % 2) := by
      rw [floatFrac, ← Nat.mod_mul, ← pow_succ, Nat.sub_add_cancel hw.1]
    have hlow : x % 2 ^ (fracBits w - 1) < 2 ^ (fracBits w - 1) := Nat.mod_lt _ hpos
    rcases Nat.mod_two_eq_zero_or_one (x / 2 ^ (fracBits w - 1)) with h | h
    · simp only [hsplit, h, Nat.mul_zero, Nat.add_zero, hlow]
    · simp only [hsplit, h, Nat.mul_one, Nat.one_ne_zero, iff_false]
      omega
  rw [isSignaling, Bool.and_eq_true, isNaN_iff, decide_eq_true_iff, htop]

/-! ### The value -/

/-- The exact absolute value, in units of the smallest subnormal. -/
def floatMag (w x : Nat) : Nat :=
  if floatExp w x = 0 then floatFrac w x else (floatFrac w x + 2 ^ fracBits w) * 2 ^ (floatExp w x - 1)

theorem floatVal_eq (w x : Nat) : floatVal w x = if 2 ^ (w - 1) ≤ x then -(floatMag w x : Int) else floatMag w x := rfl

/-- The larger exponent is the larger absolute value. -/
theorem floatMag_lt (h : floatExp w y < floatExp w x) : floatMag w y < floatMag w x := by
  have hx : floatMag w x = (floatFrac w x + 2 ^ fracBits w) * 2 ^ (floatExp w x - 1) := if_neg (by omega)
  have hlow : 2 ^ fracBits w * 2 ^ (floatExp w x - 1) ≤ floatMag w x := by
    rw [hx]
    exact Nat.mul_le_mul_right _ (Nat.le_add_left ..)
  refine lt_of_lt_of_le ?_ hlow
  have hfrac := floatFrac_lt w y
  rw [floatMag]
  split
  · exact lt_of_lt_of_le hfrac (Nat.le_mul_of_pos_right _ (Nat.two_pow_pos _))
  · calc (floatFrac w y + 2 ^ fracBits w) * 2 ^ (floatExp w y - 1)
        < (2 * 2 ^ fracBits w) * 2 ^ (floatExp w y - 1) :=
          Nat.mul_lt_mul_of_pos_right (by omega) (Nat.two_pow_pos _)
      _ = 2 ^ fracBits w * 2 ^ floatExp w y := by
          rw [Nat.mul_comm 2, Nat.mul_assoc, ← pow_succ', Nat.sub_add_cancel (by omega)]
      _ ≤ 2 ^ fracBits w * 2 ^ (floatExp w x - 1) :=
          Nat.mul_le_mul_left _ (Nat.pow_le_pow_right (by decide) (by omega))

/-- The rational value of the smallest subnormal. -/
def floatUnit (w : Nat) : ℚ := 2 ^ (1 - (if w = 32 then 127 else 1023 : Int) - fracBits w)

theorem floatUnit_pos (w : Nat) : 0 < floatUnit w := zpow_pos (by norm_num) _

theorem floatRat_eq (hw : FloatWidth w) (hx : x < 2 ^ w) : floatRat w x = (floatVal w x : ℚ) * floatUnit w := by
  have hscale : (if floatExp w x = 0 then ((floatFrac w x : Nat) : ℚ) else (floatFrac w x : ℚ) + 2 ^ fracBits w) *
      2 ^ (((max (floatExp w x) 1 : Nat) : Int) - (if w = 32 then 127 else 1023 : Int) - fracBits w) =
        (floatMag w x : ℚ) * floatUnit w := by
    rw [floatMag, floatUnit]
    by_cases he : floatExp w x = 0
    · rw [if_pos he, if_pos he, he]
      rfl
    · have hmax : ((max (floatExp w x) 1 : Nat) : Int) = ((floatExp w x - 1 : Nat) : Int) + 1 := by omega
      rw [if_neg he, if_neg he, hmax, show ∀ n b k : Int, n + 1 - b - k = n + (1 - b - k) from fun n b k => by ring,
        zpow_add₀ (by norm_num), zpow_natCast, ← mul_assoc]
      push_cast
      rfl
  have hval : (floatVal w x : ℚ) = (if x / 2 ^ (w - 1) % 2 = 1 then -1 else 1) * (floatMag w x : ℚ) := by
    rw [floatVal_eq]
    by_cases hs : 2 ^ (w - 1) ≤ x
    · rw [if_pos hs, if_pos ((sign_iff hw hx).2 hs)]
      push_cast
      ring
    · rw [if_neg hs, if_neg fun h => hs ((sign_iff hw hx).1 h)]
      push_cast
      ring
  rw [hval, mul_assoc, ← hscale, ← mul_assoc]
  rfl

/-- An infinity lies beyond every number and the other infinity. -/
theorem floatVal_inf (hw : FloatWidth w) (hx : x < 2 ^ w) (hy : y < 2 ^ w)
    (hinf : isFinite w x = false ∧ x % 2 ^ fracBits w = 0) (hnan : ¬ isNaN w y = true) (hne : x ≠ y) :
    if x < 2 ^ (w - 1) then floatVal w y < floatVal w x else floatVal w x < floatVal w y := by
  obtain ⟨htop, hfrac⟩ := hinf
  rw [isFinite_eq_false] at htop
  have hexp : 0 < floatExp w x := by
    obtain ⟨_, _⟩ := hw
    have : 2 ^ 1 ≤ 2 ^ (w - 1 - fracBits w) := Nat.pow_le_pow_right (by decide) (by omega)
    omega
  have hpos : 0 < floatMag w x := by
    rw [floatMag, if_neg (by omega)]
    exact Nat.mul_pos (Nat.add_pos_right _ (Nat.two_pow_pos _)) (Nat.two_pow_pos _)
  have hbound : floatMag w y < floatMag w x ∨
      (floatMag w y = floatMag w x ∧ (2 ^ (w - 1) ≤ x ↔ ¬ 2 ^ (w - 1) ≤ y)) := by
    by_cases hfin : isFinite w y = false
    · have hfy : floatFrac w y = floatFrac w x := by
        rw [isNaN_iff] at hnan
        have : y % 2 ^ fracBits w = 0 := by
          by_contra h
          exact hnan ⟨hfin, h⟩
        rw [floatFrac, floatFrac, this, hfrac]
      have hey : floatExp w y = floatExp w x := (isFinite_eq_false.1 hfin).trans htop.symm
      refine .inr ⟨by rw [floatMag, floatMag, hfy, hey], ?_⟩
      have h1 := floatFields hw hx
      have h2 := floatFields hw hy
      rw [hfy, hey] at h2
      split at h1 <;> split at h2 <;> omega
    · refine .inl (floatMag_lt ?_)
      have := floatExp_lt w y
      rw [isFinite_eq_false] at hfin
      omega
  rw [floatVal_eq, floatVal_eq]
  split <;> rcases hbound with h | ⟨h, hs⟩ <;> split_ifs <;> omega

/-! ### The obligation -/

theorem floatCompare_of_number {quiet : Bool} {a b : Nat} (ha : ¬ isNaN w a = true) (hb : ¬ isNaN w b = true) :
    floatCompare w quiet a b = (if floatVal w a = floatVal w b then .equal
      else if floatVal w a < floatVal w b then .less else .greater, false) := by
  rw [floatCompare, if_neg (by simp [ha, hb])]
  split_ifs <;> rfl

theorem not_isNaN_of_finite (h : isFinite w x = true) : ¬ isNaN w x = true := fun hn => by
  rw [isNaN_iff, h] at hn
  exact absurd hn.1 (by decide)

/-- Settles O25: a compare of numbers is a compare of `floatVal`, which is the rational value up to its unit and puts
the infinities outside. -/
theorem floatCompareIsExact : Obligations.FloatCompareIsExact := by
  intro w quiet a b hw ha hb nan inf signaling result
  have hw := floatWidth_of hw
  have hnum {x : Nat} (h : ¬ nan x) : ¬ isNaN w x = true := fun hn => h (isNaN_iff.1 hn)
  have hinf {x : Nat} (h : inf x) : ¬ isNaN w x = true := fun hn => (isNaN_iff.1 hn).2 h.2
  refine ⟨fun h => ?_, fun h1 h2 => ?_, fun h1 h2 => ?_, fun h1 h2 => ?_, fun h1 h2 => ?_⟩
  · have hnan : (isNaN w a || isNaN w b) = true := by
      rw [Bool.or_eq_true]
      exact h.imp isNaN_iff.2 isNaN_iff.2
    dsimp only [result]
    rw [floatCompare, if_pos hnan]
    refine ⟨rfl, ?_⟩
    simp only [Bool.or_eq_true, Bool.not_eq_true', isSignaling_iff hw, or_assoc]
    rfl
  · rw [show result = _ from floatCompare_of_number (hnum h1) (hnum h2)]
  · rw [show result = _ from floatCompare_of_number (not_isNaN_of_finite h1) (not_isNaN_of_finite h2),
      floatRat_eq hw ha, floatRat_eq hw hb]
    simp only [mul_left_inj' (floatUnit_pos w).ne', mul_lt_mul_iff_left₀ (floatUnit_pos w), Int.cast_inj, Int.cast_lt]
  · rw [show result = _ from floatCompare_of_number (hinf h1) (hnum h2)]
    by_cases he : a = b
    · rw [if_pos he, he, if_pos rfl]
    · have hord := floatVal_inf hw ha hb h1 (hnum h2) he
      split_ifs at hord ⊢ <;> first | rfl | omega
  · rw [show result = _ from floatCompare_of_number (hnum h1) (hinf h2)]
    by_cases he : a = b
    · rw [if_pos he, he, if_pos rfl]
    · have hord := floatVal_inf hw hb ha h2 (hnum h1) (Ne.symm he)
      split_ifs at hord ⊢ <;> first | rfl | omega

end Sys2Proof.Machine
end

section
/-! PROOFS. The instructions of C16 in a slot that runs (47_c16_compact.md): each is its shape of
`Sys2Proof/Laws/C16.lean` with the operands read and the addresses in integer arithmetic. -/

namespace Sys2Proof.Machine

variable {s : State}

/-! ### Shifts and logical operations -/

theorem c16Shift_of (h : s.slotRuns) {rd : Fin 8} {op : State → Shifted} {q : Shifted} (hq : op s = q) :
    c16Shift rd op s = .next (State.setR
      { s with flags := s.flagsS (bitFlags s.flags q.value q.carry) } (low rd) q.value).finish2 := by
  rw [c16Shift_pass h, hq]

theorem c16Logical_of (h : s.slotRuns) {rd : Fin 8} {op : State → Word} {v : Word} (hv : op s = v) :
    c16Logical rd op s = .next (State.setR
      { s with flags := s.flagsS (bitFlags s.flags v s.flags.c) } (low rd) v).finish2 := by
  rw [c16Logical_pass h, hv]

/-- Settles O49: two shapes, and `TST` by itself. -/
theorem logicalC16 : Obligations.LogicalC16 := by
  intro s hs c out shift
  refine ⟨fun f => ?_, fun f => ?_, fun f => ?_⟩
  · dsimp only [exec, execC16LslsShi, execC16LsrsShi, execC16AsrsShi]
    exact ⟨c16Shift_of hs (by rw [State.rC_low]), c16Shift_of hs (by rw [State.rC_low]),
      c16Shift_of hs (by rw [State.rC_low])⟩
  · dsimp only [exec, execC16MovsI8]
    exact c16Logical_of hs (setWidth_eq_ofNat ..)
  · intro a b amt
    have ha : s.rC (low f.rdn) = a := State.rC_low ..
    have hb : s.rC (low f.rm) = b := State.rC_low ..
    have hamt : (s.rC (low f.rm)).setWidth 8 = amt := by rw [hb, setWidth_eq_ofNat]
    dsimp only [exec, execC16LslsAlu, execC16LsrsAlu, execC16AsrsAlu, execC16RorsAlu, execC16AndsAlu, execC16EorsAlu,
      execC16OrrsAlu, execC16BicsAlu, execC16MvnsAlu, execC16MulsAlu, execC16TstAlu]
    refine ⟨c16Shift_of hs ?_, c16Shift_of hs ?_, c16Shift_of hs ?_, c16Shift_of hs ?_, c16Logical_of hs ?_,
      c16Logical_of hs ?_, c16Logical_of hs ?_, c16Logical_of hs ?_, c16Logical_of hs ?_, c16Logical_of hs ?_, ?_⟩
    · rw [ha, hamt]
    · rw [ha, hamt]
    · rw [ha, hamt]
    · rw [ha, hamt]
    · rw [ha, hb]
    · rw [ha, hb]
    · rw [ha, hb]
    · rw [ha, hb]
    · rw [hb]
    · rw [ha, hb, ofNat_mul_toNat]
    · rw [c16Run_always hs, setNZ_eq, ha, hb]

/-! ### Sums, differences and compares -/

/-- Settles O50: `c16Arith_sum` and `c16Arith_diff` of the operands, and the compares without a register. -/
theorem arithmeticC16 : Obligations.ArithmeticC16 := by
  intro s hs c sum diff flags
  have hc : (1 : Nat) - s.flags.c.toNat = 1 - c := rfl
  refine ⟨fun f => ⟨?_, ?_⟩, fun f => ⟨?_, ?_⟩, fun f => ⟨?_, ?_, ?_⟩, fun f => ⟨?_, ?_, ?_, ?_, ?_⟩, fun f => ?_⟩
  · exact (c16Arith_sum hs f.rd (fun s => s.rC (low f.rn)) (fun s => s.rC (low f.rm)) fun _ => false).trans
      (by simp only [State.rC_low]; rfl)
  · exact (c16Arith_diff hs f.rd (fun s => s.rC (low f.rn)) (fun s => s.rC (low f.rm)) fun _ => true).trans
      (by simp only [State.rC_low]; rfl)
  · exact (c16Arith_sum hs f.rd (fun s => s.rC (low f.rn)) (fun _ => f.imm3.setWidth 32) fun _ => false).trans
      (by simp only [State.rC_low, setWidth_eq_ofNat]; rfl)
  · exact (c16Arith_diff hs f.rd (fun s => s.rC (low f.rn)) (fun _ => f.imm3.setWidth 32) fun _ => true).trans
      (by simp only [State.rC_low, setWidth_eq_ofNat]; rfl)
  · exact (c16Arith_sum hs f.rd (fun s => s.rC (low f.rd)) (fun _ => f.imm8.setWidth 32) fun _ => false).trans
      (by simp only [State.rC_low, setWidth_eq_ofNat]; rfl)
  · exact (c16Arith_diff hs f.rd (fun s => s.rC (low f.rd)) (fun _ => f.imm8.setWidth 32) fun _ => true).trans
      (by simp only [State.rC_low, setWidth_eq_ofNat]; rfl)
  · exact (c16Compare_diff hs rfl (fun s => s.rC (low f.rd)) (fun _ => f.imm8.setWidth 32) fun _ => true).trans
      (by simp only [State.rC_low, setWidth_eq_ofNat]; rfl)
  · exact (c16Arith_sum hs f.rdn (fun s => s.rC (low f.rdn)) (fun s => s.rC (low f.rm)) fun s => s.flags.c).trans
      (by simp only [State.rC_low]; rfl)
  · exact (c16Arith_diff hs f.rdn (fun s => s.rC (low f.rdn)) (fun s => s.rC (low f.rm)) fun s => s.flags.c).trans
      (by simp only [State.rC_low]; rfl)
  · exact (c16Arith_diff hs f.rdn (fun _ => 0) (fun s => s.rC (low f.rm)) fun _ => true).trans
      (by simp only [State.rC_low]; rfl)
  · exact (c16Compare_diff hs rfl (fun s => s.rC (low f.rdn)) (fun s => s.rC (low f.rm)) fun _ => true).trans
      (by simp only [State.rC_low]; rfl)
  · exact (c16Compare_sum hs rfl (fun s => s.rC (low f.rdn)) (fun s => s.rC (low f.rm)) fun _ => false).trans
      (by simp only [State.rC_low]; rfl)
  · dsimp only [exec, execC16CmpHi, c16Compare]
    by_cases h : f.d = 15 ∨ f.rm = 15
    · rw [if_pos h]
      exact c16Run_illegal hs (by rcases h with h | h <;> simp [h]) _
    · rw [if_neg h]
      exact c16Compare_diff (legal := fun _ => f.d != 15 && f.rm != 15) hs (by simpa [not_or] using h)
        (fun s => s.rC f.d) (fun s => s.rC f.rm) fun _ => true

/-! ### Addresses in integer arithmetic -/

/-- An immediate scaled by a power of two. -/
theorem scaled_eq {n : Nat} (hn : n ≤ 32) (v : BitVec n) (k : Nat) :
    (v.setWidth 32 <<< k : Word) = BitVec.ofNat 32 (2 ^ k * v.toNat) := by
  rw [shiftLeft_eq_ofNat, BitVec.toNat_setWidth,
    Nat.mod_eq_of_lt (lt_of_lt_of_le v.isLt (Nat.pow_le_pow_right (by decide) hn)), Nat.mul_comm]

theorem add_ofNat {w : Nat} (a : BitVec w) (n : Nat) : a + BitVec.ofNat w n = BitVec.ofNat w (a.toNat + n) := by
  rw [BitVec.ofNat_add, BitVec.ofNat_toNat, BitVec.setWidth_eq]

theorem sub_ofNat {w : Nat} (a : BitVec w) (n : Nat) : a - BitVec.ofNat w n = BitVec.ofInt w (a.toNat - n) := by
  rw [BitVec.sub_eq_add_neg, ← BitVec.ofInt_natCast, ← BitVec.ofInt_neg, add_ofInt, sub_eq_add_neg]

theorem literalBase_add (s : State) (imm8 : BitVec 8) : s.literalBase + (imm8.setWidth 32 <<< 2) =
    BitVec.ofNat 32 ((s.ia32 + 4).toNat / 4 * 4 + 4 * imm8.toNat) := by
  rw [State.literalBase, and_not_3, scaled_eq (by decide), ← BitVec.ofNat_add]
  rfl

/-! ### Moves, the hint and the group start -/

theorem c16Move_of (h : s.slotRuns) {rd : Fin 16} {op : State → Word} {v : Word} (hv : op s = v) :
    c16Move rd op s = .next (s.setR rd v).finish2 := by
  rw [c16Move, c16Run_always h, State.resultC, hv]

theorem c16High_low (h : s.slotRuns) {d : Fin 16} (hd : d ≠ 15) (op : State → Word) :
    c16High d op s = .next (s.setR d (op s)).finish2 := by
  rw [c16High, c16Run_pass h (by simp [hd]), if_neg hd, State.resultC]

/-- Settles O51: two shapes for the moves; the group start by whether a group is active. -/
theorem movesC16 : Obligations.MovesC16 := by
  intro s hs put
  refine ⟨fun f hd => ?_, fun f => ?_, fun f => ?_, ?_, fun f => ?_⟩
  · exact ⟨c16High_low hs hd fun s => s.rC f.d + s.rC f.rm, c16High_low hs hd fun s => s.rC f.rm⟩
  · dsimp only [exec, execC16AdrAdr, execC16AddAdr]
    exact ⟨c16Move_of hs (literalBase_add ..), c16Move_of hs (by rw [scaled_eq (by decide), add_ofNat]; rfl)⟩
  · dsimp only [exec, execC16AddSpa, execC16SubSpa]
    exact ⟨c16Move_of hs (by rw [scaled_eq (by decide), add_ofNat]; rfl),
      c16Move_of hs (by rw [scaled_eq (by decide), sub_ofNat]; push_cast; rfl)⟩
  · exact c16Run_always hs State.finish2
  · dsimp only [exec, execC16ItIt]
    have hstart : f.firstcond ++ f.mask = BitVec.ofNat 8 (f.firstcond.toNat * 16 + f.mask.toNat) := by
      apply BitVec.eq_of_toNat_eq
      rw [BitVec.toNat_append, BitVec.toNat_ofNat, Nat.mod_eq_of_lt (by omega),
        ← Nat.shiftLeft_add_eq_or_of_lt f.mask.isLt, Nat.shiftLeft_eq]
    by_cases h : s.itstate.toNat % 16 = 0
    · have hidle : s.inGroup = false := Bool.eq_false_iff.2 fun hg => (inGroup_iff s).1 hg h
      rw [if_pos h, c16Run_pass hs (by rw [hidle]; rfl), hstart]
    · rw [if_neg h, c16Run_illegal hs (by rw [(inGroup_iff s).2 h]; rfl)]
      rfl

/-! ### Single-register transfers -/

theorem loadsC16 {i : Instr} {rd : Fin 8} {addr : State → Word} {a : Word} {n : Nat} {ext : Nat → Word}
    (hi : exec i s = c16Load rd addr n ext s) (ha : addr s = a) : LoadsC16 i s a n ext rd := by
  intro hs hr
  subst ha
  exact hi.trans (c16Load_ok hs rd addr n ext hr)

theorem loadsC16_signed {i : Instr} {rd : Fin 8} {addr : State → Word} {a : Word} {n : Nat} (hn : 0 < n)
    (hi : exec i s = c16Load rd addr n (sextTo (8 * n) 32) s) (ha : addr s = a) :
    LoadsC16 i s a n (signedBytes 32 n) rd := by
  intro hs hr
  rw [loadsC16 hi ha hs hr, sextTo_eq n 32 _ hn (narrowAt_lt ..)]

theorem storesC16 {i : Instr} {rd : Fin 8} {addr : State → Word} {a : Word} {n : Nat} (hn : n ≤ 2 ^ 32)
    (hi : exec i s = c16Store rd addr n s) (ha : addr s = a) : StoresC16 i s a n rd := by
  intro hm hs hw
  subst ha
  rw [hi]
  exact c16Store_ok hs hm rd addr hn hw

theorem addrC16Lsr_eq (f : C16.LSR) (s : State) : addrC16Lsr f s = s.lo f.rn + s.lo f.rm := by
  rw [addrC16Lsr, State.rC_low, State.rC_low]

theorem addrC16Lsi_eq (k : Nat) (f : C16.LSI) (s : State) :
    addrC16Lsi k f s = BitVec.ofNat 32 ((s.lo f.rn).toNat + 2 ^ k * f.imm5.toNat) := by
  rw [addrC16Lsi, State.rC_low, scaled_eq (by decide), add_ofNat]

theorem addrSpr_eq (f : C16.SPR) (s : State) : addrSpr f s = BitVec.ofNat 32 (s.r[13].toNat + 4 * f.imm8.toNat) := by
  rw [addrSpr, scaled_eq (by decide), add_ofNat]
  rfl

/-- Settles O52: the shapes of a load and of a store at the addresses of the four formats. -/
theorem loadsAndStoresC16 : Obligations.LoadsAndStoresC16 := by
  intro s
  refine ⟨fun f => loadsC16 rfl (literalBase_add ..), fun f => ?_, fun f => ?_, fun f => ?_⟩
  · have ha := addrC16Lsr_eq f s
    exact ⟨loadsC16 rfl ha, loadsC16 rfl ha, loadsC16 rfl ha, loadsC16_signed (by decide) rfl ha,
      loadsC16_signed (by decide) rfl ha, storesC16 (by decide) rfl ha, storesC16 (by decide) rfl ha,
      storesC16 (by decide) rfl ha⟩
  · have h4 := addrC16Lsi_eq 2 f s
    have h2 := addrC16Lsi_eq 1 f s
    have h1 := addrC16Lsi_eq 0 f s
    exact ⟨loadsC16 rfl h4, loadsC16 rfl h2, loadsC16 rfl h1, storesC16 (by decide) rfl h4,
      storesC16 (by decide) rfl h2, storesC16 (by decide) rfl h1⟩
  · exact ⟨loadsC16 rfl (addrSpr_eq f s), storesC16 (by decide) rfl (addrSpr_eq f s)⟩

/-! ### Multiples -/

theorem pushList_eq (f : C16.PP) : pushList f = BitVec.ofNat 16 (f.reglist.toNat + if f.r then 2 ^ 14 else 0) := by
  have h (x : BitVec 8) : (x.setWidth 16 ||| 0x4000 : BitVec 16) = BitVec.ofNat 16 (x.toNat + 2 ^ 14) := by
    revert x
    decide
  unfold pushList
  cases f.r
  · exact (BitVec.or_zero ..).trans (setWidth_eq_ofNat ..)
  · exact h _

theorem popList_eq (f : C16.PP) : popList f = BitVec.ofNat 16 (f.reglist.toNat + if f.r then 2 ^ 15 else 0) := by
  have h (x : BitVec 8) : (x.setWidth 16 ||| 0x8000 : BitVec 16) = BitVec.ofNat 16 (x.toNat + 2 ^ 15) := by
    revert x
    decide
  unfold popList
  cases f.r
  · exact (BitVec.or_zero ..).trans (setWidth_eq_ofNat ..)
  · exact h _

/-- Settles O53: the shapes of a multiple store and load on the four lists. -/
theorem multiplesC16 : Obligations.MultiplesC16 := by
  intro s hs stores loads
  refine ⟨fun f => ⟨?_, ?_⟩, fun f => ⟨?_, ?_⟩⟩
  · rw [← pushList_eq]
    exact fun hl hm hw => c16StoreMultiple_ok hs hm hl 13 true false hw
  · rw [← popList_eq]
    exact fun hl hb hr => c16LoadMultiple_ok hs hl 13 hb hr
  · rw [← setWidth_eq_ofNat]
    exact fun hl hm hw => c16StoreMultiple_ok hs hm hl (low f.rn) false true hw
  · rw [← setWidth_eq_ofNat]
    exact fun hl hb hr => c16LoadMultiple_ok hs hl (low f.rn) hb hr

/-! ### Branches -/

/-- A target from `ia + 4` by a scaled offset. -/
theorem aheadC_eq {n : Nat} (s : State) (v : BitVec n) (k : Nat) :
    s.aheadC (v.signExtend 32 <<< k) = BitVec.ofInt 32 (s.ia32.toNat + 4 + 2 ^ k * v.toInt) := by
  have h4 : s.ia32 + 4 = BitVec.ofInt 32 (s.ia32.toNat + 4) := add_ofInt s.ia32 4
  rw [State.aheadC, signExtend_shiftLeft, h4, ← BitVec.ofInt_add, mul_comm]

theorem c16High_pc (h : s.slotRuns) (hb : s.mayBranch = true) {d : Fin 16} (hd : d = 15) (op : State → Word) :
    c16High d op s =
      .next (State.advanceIt { s with pc := (BitVec.ofNat 32 ((op s).toNat / 2 * 2)).setWidth 64 }) := by
  rw [c16High, c16Run_pass h (by simp [hb]), if_pos hd, State.branchC, and_not_1]
  rfl

/-- Settles O54: the branches that may stand in the slot, each with its target in integers. -/
theorem branchesC16 : Obligations.BranchesC16 := by
  intro s hs ahead link goes
  refine ⟨fun hb => ⟨fun f => ⟨?_, fun hm => ?_⟩, fun f hd => ⟨?_, ?_⟩, fun f => ?_, fun f => ?_, fun f => ?_⟩,
    fun f => ?_, fun hidle f => ?_⟩
  · exact c16Run_pass (legal := State.mayBranch) hs hb fun s => (s.branchExchange (s.rC f.rm)).advanceIt
  · dsimp only [exec, execC16BlxBx]
    rw [c16Run_pass hs (by simp [hm, hb])]
    rfl
  · rw [← hd]
    exact c16High_pc hs hb hd fun s => s.rC f.d + s.rC f.rm
  · exact c16High_pc hs hb hd fun s => s.rC f.rm
  · dsimp only [exec, execC16BB]
    rw [c16Run_pass hs hb, aheadC_eq]
    rfl
  · dsimp only [exec, execC16BlBl2]
    rw [c16Run_pass hs hb, scaled_eq (by decide), add_ofNat, State.branchC, and_not_1]
    rfl
  · dsimp only [exec, execC16BlxBl2]
    rw [c16Run_pass hs hb, scaled_eq (by decide), add_ofNat, and_not_3]
    rfl
  · dsimp only [exec, execC16BlBl1]
    rw [if_pos (show s.slotPassed = true from hs), aheadC_eq]
    rfl
  · have hgroup : s.inGroup = false := Bool.eq_false_iff.2 fun hg => (inGroup_iff s).1 hg hidle
    dsimp only [exec, execC16BBc]
    rw [c16Run_pass hs (by rw [hgroup]; rfl), aheadC_eq]
    exact apply_ite Host.Outcome.next ..

end Sys2Proof.Machine
end

section
/-! PROOFS. The data processing, branches and system instructions of W64 (48_w64.md sections 2 to 9 and 11), with the
results at the width `sf` selects. -/

namespace Sys2Proof.Machine

variable {s : State}

/-! ### The shifted operand at both widths -/

theorem shifted_64 {sf : Bool} {n : Nat} (hn : n < widthOf sf) (k : ShiftKind) (v : DWord) (hsf : sf = true) :
    shiftW k v n = shiftedW sf k v n := by
  subst hsf
  exact shiftW_64 k v hn

theorem shifted_32 {sf : Bool} {n : Nat} (hn : n < widthOf sf) (k : ShiftKind) (v : DWord) (hsf : sf = false) :
    shiftW k (v.setWidth 32) n = (shiftedW sf k v n).setWidth 32 := by
  subst hsf
  exact shiftW_32 k v hn

/-- An operation of two operands that may be computed at the low word alone. -/
def LowWord (g : (w : Nat) → BitVec w → BitVec w → BitVec w) : Prop :=
  ∀ x y : DWord, (g 64 x y).setWidth 32 = g 32 (x.setWidth 32) (y.setWidth 32)

theorem lowWord_and : LowWord fun _ a b => a &&& b := fun _ _ => BitVec.setWidth_and

theorem lowWord_or : LowWord fun _ a b => a ||| b := fun _ _ => BitVec.setWidth_or

theorem lowWord_xor : LowWord fun _ a b => a ^^^ b := fun _ _ => BitVec.setWidth_xor

theorem LowWord.not {g : (w : Nat) → BitVec w → BitVec w → BitVec w} (h : LowWord g) :
    LowWord fun w a b => g w a (~~~b) := fun x y => by
  rw [h x (~~~y), BitVec.setWidth_not (by decide)]

theorem atWidth_shifted {sf : Bool} {n : Nat} {g : (w : Nat) → BitVec w → BitVec w → BitVec w} (hg : LowWord g)
    (hn : n < widthOf sf) (k : ShiftKind) (x v : DWord) :
    atWidth sf (fun w t => g w (t x) (shiftW k (t v) n)) = atW sf (g 64 x (shiftedW sf k v n)) :=
  atWidth_eq (fun h => congrArg (g 64 x) (shifted_64 hn k v h))
    fun h => (congrArg (g 32 (x.setWidth 32)) (shifted_32 hn k v h)).trans (hg x _).symm

theorem logicalAt_shifted {sf : Bool} {n : Nat} {g : (w : Nat) → BitVec w → BitVec w → BitVec w} (hg : LowWord g)
    (hn : n < widthOf sf) (k : ShiftKind) (x v : DWord) (f : Flags) :
    logicalAt sf f (fun w t => g w (t x) (shiftW k (t v) n)) =
      (atW sf (g 64 x (shiftedW sf k v n)), bitFlagsW sf f (g 64 x (shiftedW sf k v n))) :=
  logicalAt_eq f (fun h => congrArg (g 64 x) (shifted_64 hn k v h))
    fun h => (congrArg (g 32 (x.setWidth 32)) (shifted_32 hn k v h)).trans (hg x _).symm

/-! ### Add and subtract -/

theorem immAsi_eq (f : W64.ASI) : immAsi f = BitVec.ofNat 64 (f.imm12.toNat * if f.sh then 4096 else 1) := by
  apply BitVec.eq_of_toNat_eq
  rw [immAsi, BitVec.toNat_shiftLeft, BitVec.toNat_setWidth, BitVec.toNat_ofNat, Nat.shiftLeft_eq]
  cases f.sh
  · simp
  · simp only [if_true]
    omega

/-- Settles O55: the sums and differences of the laws, of an immediate and of a shifted register. -/
theorem addSubtractW64 : Obligations.AddSubtractW64 := by
  refine fun s => ⟨fun f => ?_, fun f hwf => ?_⟩
  · intro x y
    dsimp only [exec, execW64AddAsi, execW64SubAsi, execW64AddsAsi, execW64SubsAsi, w64WriteFlags]
    rw [immAsi_eq]
    refine ⟨?_, ?_, ?_, ?_⟩
    · rw [atWidth_eq (v := x + y) (fun _ => rfl) fun _ => (setWidth_add_32 x y).symm]
    · rw [atWidth_eq (v := x - y) (fun _ => rfl) fun _ => (setWidth_sub_32 x y).symm]
    · rw [sumAt_add (x := x) (y := y) s.flags (fun _ => rfl) fun _ => rfl]
    · rw [sumAt_sub (x := x) (y := y) s.flags (fun _ => rfl) fun _ => rfl]
  · intro x y
    rw [W64.ASR.wf, Bool.and_eq_true] at hwf
    have hn := shiftAmountOk_lt hwf.2
    dsimp only [exec, execW64AddAsr, execW64SubAsr, execW64AddsAsr, execW64SubsAsr, w64WriteFlags, w64Write]
    refine ⟨?_, ?_, ?_, ?_⟩
    · rw [atWidth_shifted (g := fun _ a b => a + b) setWidth_add_32 hn]
    · rw [atWidth_shifted (g := fun _ a b => a - b) setWidth_sub_32 hn]
    · rw [sumAt_add (x := x) (y := y) s.flags (fun h => congrArg (addWithCarry x · false) (shifted_64 hn _ _ h))
        fun h => congrArg (addWithCarry (x.setWidth 32) · false) (shifted_32 hn _ _ h)]
    · rw [sumAt_sub (x := x) (y := y) s.flags (fun h => congrArg (fun v => addWithCarry x (~~~v) true) (shifted_64 hn _ _ h))
        fun h => congrArg (fun v => addWithCarry (x.setWidth 32) (~~~v) true) (shifted_32 hn _ _ h)]

/-! ### Wide moves and pc-relative addresses -/

theorem movField_eq (v : BitVec 16) (p : Nat) : movField v p = BitVec.ofNat 64 (v.toNat * 2 ^ p) := by
  apply BitVec.eq_of_toNat_eq
  rw [movField, BitVec.toNat_shiftLeft, BitVec.toNat_setWidth, BitVec.toNat_ofNat, Nat.shiftLeft_eq,
    Nat.mod_eq_of_lt (lt_of_lt_of_le v.isLt (by decide))]

/-- The field lies in the register of the width `sf` selects. -/
theorem movField_lt {f : W64.MOVW} (h : f.wf = true) : f.imm16.toNat * 2 ^ (16 * f.hw.toNat) < 2 ^ widthOf f.sf := by
  have hpos : 16 + 16 * f.hw.toNat ≤ widthOf f.sf := by
    rw [W64.MOVW.wf, halfwordOk, Bool.or_eq_true, decide_eq_true_iff] at h
    cases hsf : f.sf
    · have : f.hw.toNat < 2 := h.resolve_left (by rw [hsf]; decide)
      rw [widthOf, if_neg Bool.false_ne_true]
      omega
    · rw [widthOf, if_pos rfl]
      omega
  calc f.imm16.toNat * 2 ^ (16 * f.hw.toNat) < 2 ^ 16 * 2 ^ (16 * f.hw.toNat) :=
        Nat.mul_lt_mul_of_pos_right f.imm16.isLt (Nat.two_pow_pos _)
    _ = 2 ^ (16 + 16 * f.hw.toNat) := (pow_add ..).symm
    _ ≤ 2 ^ widthOf f.sf := Nat.pow_le_pow_right (by decide) hpos

theorem atW_ofNat {sf : Bool} {n : Nat} (h : n < 2 ^ widthOf sf) : atW sf (BitVec.ofNat 64 n) = BitVec.ofNat 64 n := by
  cases sf
  · rw [widthOf, if_neg Bool.false_ne_true] at h
    rw [atW, if_neg Bool.false_ne_true, setWidth_eq_ofNat 64, BitVec.setWidth_ofNat_of_le (by decide),
      BitVec.toNat_ofNat, Nat.mod_eq_of_lt h]
  · rfl

theorem movz_eq {f : W64.MOVW} (h : f.wf = true) :
    atWidth f.sf (fun _ t => t (movField f.imm16 (movPos f))) =
      BitVec.ofNat 64 (f.imm16.toNat * 2 ^ (16 * f.hw.toNat)) := by
  rw [atWidth_eq (v := movField f.imm16 (movPos f)) (fun _ => rfl) fun _ => rfl, movField_eq]
  exact atW_ofNat (movField_lt h)

theorem not_ofNat {w n : Nat} (h : n < 2 ^ w) : ~~~(BitVec.ofNat w n) = BitVec.ofNat w (2 ^ w - 1 - n) := by
  apply BitVec.eq_of_toNat_eq
  rw [BitVec.toNat_not, BitVec.toNat_ofNat, BitVec.toNat_ofNat, Nat.mod_eq_of_lt h,
    Nat.mod_eq_of_lt (lt_of_le_of_lt (Nat.sub_le ..) (Nat.sub_lt (Nat.two_pow_pos w) Nat.one_pos))]

theorem movn_eq {f : W64.MOVW} (h : f.wf = true) :
    atWidth f.sf (fun _ t => ~~~(t (movField f.imm16 (movPos f)))) =
      BitVec.ofNat 64 (2 ^ widthOf f.sf - 1 - f.imm16.toNat * 2 ^ (16 * f.hw.toNat)) := by
  have hlt := movField_lt h
  rw [movField_eq, show movPos f = 16 * f.hw.toNat from rfl]
  generalize f.imm16.toNat * 2 ^ (16 * f.hw.toNat) = n at hlt ⊢
  cases hsf : f.sf <;> rw [hsf] at hlt
  · show (~~~((BitVec.ofNat 64 n).setWidth 32)).setWidth 64 = _
    rw [BitVec.setWidth_ofNat_of_le (by decide), not_ofNat (w := 32) hlt]
    exact setWidth_ofNat_of_le (v := 2 ^ 32 - 1) (Nat.sub_le ..) (by decide)
  · exact not_ofNat hlt

/-- A field put into a register keeps the bits above and below. -/
theorem movk_bits (v : DWord) (imm : BitVec 16) (p : Nat) :
    (v &&& ~~~(movField (BitVec.allOnes 16) p)) ||| movField imm p =
      BitVec.ofNat 64 (v.toNat / 2 ^ (p + 16) * 2 ^ (p + 16) + imm.toNat * 2 ^ p + v.toNat % 2 ^ p) := by
  have hshape : v.toNat / 2 ^ (p + 16) * 2 ^ (p + 16) + imm.toNat * 2 ^ p + v.toNat % 2 ^ p =
      2 ^ p * (2 ^ 16 * (v.toNat / 2 ^ (p + 16)) + imm.toNat) + v.toNat % 2 ^ p := by
    rw [pow_add]
    ring
  rw [hshape]
  apply BitVec.eq_of_getLsbD_eq
  intro i hi
  rw [BitVec.getLsbD_ofNat, Nat.testBit_two_pow_mul_add _ (Nat.mod_lt _ (Nat.two_pow_pos p)),
    Nat.testBit_two_pow_mul_add _ imm.isLt, Nat.testBit_mod_two_pow, Nat.testBit_div_two_pow]
  simp only [movField, BitVec.getLsbD_or, BitVec.getLsbD_and, BitVec.getLsbD_not, BitVec.getLsbD_shiftLeft,
    BitVec.getLsbD_setWidth, BitVec.getLsbD_allOnes, hi, decide_true, Bool.true_and, BitVec.testBit_toNat]
  by_cases h1 : i < p
  · simp [h1]
  · by_cases h2 : i - p < 16
    · simp [h1, h2, show i - p < 64 by omega]
    · simp [h1, h2, show i - p - 16 + (p + 16) = i by omega, BitVec.getLsbD_of_ge imm (i - p) (by omega)]

/-- Settles O56: the logical operations may be computed at the low word; the moves place one field. -/
theorem logicalAndMovesW64 : Obligations.LogicalAndMovesW64 := by
  intro s put
  refine ⟨fun f hwf => ?_, fun f hwf => ?_, fun f => ?_⟩
  · intro x y flags
    have hn : f.imm6.toNat < widthOf f.sf := shiftAmountOk_lt hwf
    dsimp only [exec, execW64AndLogr, execW64BicLogr, execW64OrrLogr, execW64OrnLogr, execW64EorLogr, execW64EonLogr,
      execW64AndsLogr, execW64BicsLogr, w64Write, w64WriteFlags]
    refine ⟨?_, ?_, ?_, ?_, ?_, ?_, ?_, ?_⟩
    · rw [atWidth_shifted lowWord_and hn]
    · rw [atWidth_shifted lowWord_and.not hn]
    · rw [atWidth_shifted lowWord_or hn]
    · rw [atWidth_shifted lowWord_or.not hn]
    · rw [atWidth_shifted lowWord_xor hn]
    · rw [atWidth_shifted lowWord_xor.not hn]
    · rw [logicalAt_shifted lowWord_and hn]
    · rw [logicalAt_shifted lowWord_and.not hn]
  · dsimp only [exec, execW64MovzMovw, execW64MovnMovw, execW64MovkMovw, w64Write]
    refine ⟨?_, ?_, ?_⟩
    · rw [movz_eq hwf]
    · rw [movn_eq hwf]
    · rw [atWidth_eq (v := (s.getX f.rd &&& ~~~(movField (BitVec.allOnes 16) (movPos f))) ||| movField f.imm16 (movPos f))
        (fun _ => rfl) fun _ => rfl, movk_bits]
      rfl
  · dsimp only [exec, execW64AdrAdr, execW64AdrpAdr, w64Write]
    refine ⟨?_, ?_⟩
    · rw [BitVec.signExtend, add_ofInt]
    · rw [and_not_FFF_wide, signExtend_shiftLeft, ← BitVec.ofInt_natCast, ← BitVec.ofInt_add, mul_comm f.imm21.toInt]
      push_cast
      rfl

/-! ### Branches -/

theorem bit_iff (v : DWord) (k : Nat) : v.getLsbD k = true ↔ v.toNat / 2 ^ k % 2 = 1 := by
  rw [← BitVec.testBit_toNat, Nat.testBit_eq_decide_div_mod_eq, decide_eq_true_iff]

theorem branchW_eq (s : State) (a : DWord) : s.branchW a = { s with pc := BitVec.ofNat 64 (a.toNat / 4 * 4) } := by
  rw [State.branchW, and_not_3_wide]

/-- Settles O57: the relative branches by their condition, the register branches with the low bits cleared. -/
theorem branchesW64 : Obligations.BranchesW64 := by
  intro s jump goto choose link
  refine ⟨fun f => ⟨?_, ?_⟩, fun f => ?_, fun f => ⟨?_, ?_⟩, fun f => ⟨?_, ?_⟩, fun f => ⟨?_, ?_, ?_⟩⟩
  · exact w64Relative_eq (p := True) (by simp) f.imm26
  · have hpc : (s.setX 30 (s.pc + 4)).pc = s.pc := by simp
    refine (w64Relative_eq (s := s.setX 30 (s.pc + 4)) (p := True) (by simp) f.imm26).trans ?_
    rw [hpc]
    rfl
  · exact w64Relative_eq Iff.rfl f.imm19
  · exact w64Relative_eq (isZeroAt_iff ..) f.imm19
  · refine w64Relative_eq ?_ f.imm19
    rw [Bool.not_eq_true', ← Bool.not_eq_true, isZeroAt_iff]
  · refine w64Relative_eq ?_ f.imm14
    rw [Bool.not_eq_true', ← Bool.not_eq_true, bit_iff]
    omega
  · exact w64Relative_eq (bit_iff ..) f.imm14
  · exact congrArg Host.Outcome.next (branchW_eq ..)
  · exact congrArg Host.Outcome.next (branchW_eq ..)
  · exact congrArg Host.Outcome.next (branchW_eq ..)

/-! ### System -/

/-- The flag view, bit by bit. -/
theorem pstate_eq (s : State) : s.pstate =
    (if s.flags.n then BitVec.ofNat 64 (2 ^ 31) else 0) ||| (if s.flags.z then BitVec.ofNat 64 (2 ^ 30) else 0) |||
    (if s.flags.c then BitVec.ofNat 64 (2 ^ 29) else 0) ||| (if s.flags.v then BitVec.ofNat 64 (2 ^ 28) else 0) := by
  rw [State.pstate]
  generalize s.flags.n = n, s.flags.z = z, s.flags.c = c, s.flags.v = v
  revert n z c v
  decide

/-- Settles O60: the view of the flags, bit by bit. -/
theorem systemW64 : Obligations.SystemW64 := by
  refine fun s => ⟨rfl, fun f => ⟨?_, rfl⟩⟩
  dsimp only [exec, execW64MrsSys, w64Write]
  rw [pstate_eq]

end Sys2Proof.Machine
end

section
/-! PROOFS. The register results of W64 (48_w64.md sections 7 to 9): conditional selects, divisions, variable shifts and
multiplies, each an exact integer at the width `sf` selects. -/

namespace Sys2Proof.Machine

variable {s : State}

theorem ofInt_toNat {w : Nat} (x : BitVec w) : BitVec.ofInt w x.toNat = x := by
  rw [BitVec.ofInt_natCast, BitVec.ofNat_toNat, BitVec.setWidth_eq]

/-! ### Selects -/

/-- What a select leaves when its condition fails, at both widths. -/
theorem w64Select_eq {g : (w : Nat) → BitVec w → BitVec w} {h : Int → Int} (f : W64.CSEL) (s : State)
    (hg : ∀ (w : Nat) (x : BitVec w), g w x = BitVec.ofInt w (h x.toNat)) :
    w64Select g f s = .next (s.setX f.rd (if s.flags.condPassed f.cond then atW f.sf (s.getX f.rn)
      else ofIntW f.sf (h (intW f.sf false (s.getX f.rm))))).nextW := by
  rw [w64Select, w64Write]
  by_cases hc : s.flags.condPassed f.cond = true
  · simp only [hc, if_true]
    rw [atWidth_eq (v := s.getX f.rn) (fun _ => rfl) fun _ => rfl]
  · simp only [hc]
    rw [atWidth_ofInt (v := h (intW f.sf false (s.getX f.rm)))]
    · rfl
    · intro hsf
      rw [hsf]
      exact hg ..
    · intro hsf
      rw [hsf]
      exact hg ..

theorem add_one_ofInt {w : Nat} (x : BitVec w) : x + 1 = BitVec.ofInt w (x.toNat + 1) := by
  rw [BitVec.ofInt_add, ofInt_toNat]
  rfl

theorem not_ofInt {w : Nat} (x : BitVec w) : ~~~x = BitVec.ofInt w (-1 - x.toNat) := by
  have h : ~~~x = -x - 1 := eq_sub_of_add_eq (BitVec.neg_eq_not_add x).symm
  rw [h, sub_eq_add_neg, sub_eq_add_neg, BitVec.ofInt_add, BitVec.ofInt_neg, BitVec.ofInt_neg, ofInt_toNat, add_comm]
  rfl

theorem neg_ofInt {w : Nat} (x : BitVec w) : 0 - x = BitVec.ofInt w (-x.toNat) := by
  rw [BitVec.ofInt_neg, ofInt_toNat, zero_sub]

/-! ### Divisions and variable shifts -/

/-- A function of two registers that is an exact integer at each width. -/
theorem w64Two_eq {g : (w : Nat) → BitVec w → BitVec w → BitVec w} {v : Int} (f : W64.DP2) (s : State)
    (h1 : f.sf = true → g 64 (s.getX f.rn) (s.getX f.rm) = BitVec.ofInt 64 v)
    (h2 : f.sf = false → g 32 ((s.getX f.rn).setWidth 32) ((s.getX f.rm).setWidth 32) = BitVec.ofInt 32 v) :
    w64Two g f s = .next (s.setX f.rd (ofIntW f.sf v)).nextW := by
  rw [w64Two, w64Write, atWidth_ofInt h1 h2]

theorem udiv_ofInt {w : Nat} (a b : BitVec w) : (if b = 0 then 0 else BitVec.ofNat w (a.toNat / b.toNat)) =
    BitVec.ofInt w (if (b.toNat : Int) = 0 then 0 else a.toNat / b.toNat) := by
  by_cases h : b = 0
  · rw [if_pos h, if_pos (by simp [h])]
    rfl
  · rw [if_neg h, if_neg fun hz => h (BitVec.eq_of_toNat_eq (by simpa using hz)), ← BitVec.ofInt_natCast]
    push_cast
    rfl

theorem sdiv_ofInt {w : Nat} (a b : BitVec w) : (if b = 0 then 0 else BitVec.ofInt w (a.toInt.tdiv b.toInt)) =
    BitVec.ofInt w (if b.toInt = 0 then 0 else a.toInt.tdiv b.toInt) := by
  by_cases h : b = 0
  · rw [if_pos h, if_pos (by simp [h])]
    rfl
  · rw [if_neg h, if_neg fun hz => h (BitVec.eq_of_toInt_eq (by simpa using hz))]

/-- A shifted word is its own low word. -/
theorem atW_shiftedW (sf : Bool) (k : ShiftKind) (v : DWord) (n : Nat) :
    atW sf (shiftedW sf k v n) = shiftedW sf k v n := by
  cases sf
  · unfold atW shiftedW
    rw [if_neg Bool.false_ne_true, if_neg Bool.false_ne_true]
    exact congrArg (BitVec.setWidth 64) ((BitVec.setWidth_setWidth_of_le _ (by decide)).trans (BitVec.setWidth_eq _))
  · rfl

theorem w64Two_shift (k : ShiftKind) (f : W64.DP2) (s : State) : w64Two (shiftVar k) f s =
    .next (s.setX f.rd (shiftedW f.sf k (s.getX f.rn) ((s.getX f.rm).toNat % widthOf f.sf))).nextW := by
  rw [w64Two, w64Write, ← atW_shiftedW, atWidth_eq]
  · intro hsf
    rw [hsf]
    exact shiftW_64 k _ (Nat.mod_lt _ (by decide))
  · intro hsf
    rw [hsf]
    have hamount : ((s.getX f.rm).setWidth 32).toNat % 32 = (s.getX f.rm).toNat % 32 := by
      rw [BitVec.toNat_setWidth]
      omega
    show shiftW k ((s.getX f.rn).setWidth 32) (((s.getX f.rm).setWidth 32).toNat % 32) = _
    rw [hamount]
    exact shiftW_32 k _ (Nat.mod_lt _ (by decide))

/-! ### Multiplies -/

theorem mulAdd_ofInt {w : Nat} (a x y : BitVec w) : a + x * y = BitVec.ofInt w (a.toNat + x.toNat * y.toNat) := by
  rw [BitVec.ofInt_add, BitVec.ofInt_mul, ofInt_toNat, ofInt_toNat, ofInt_toNat]

theorem mulSub_ofInt {w : Nat} (a x y : BitVec w) : a - x * y = BitVec.ofInt w (a.toNat - x.toNat * y.toNat) := by
  rw [sub_eq_add_neg (a.toNat : Int), BitVec.ofInt_add, BitVec.ofInt_neg, BitVec.ofInt_mul, ofInt_toNat, ofInt_toNat,
    ofInt_toNat, BitVec.sub_eq_add_neg]

theorem mulLong_eq (signed : Bool) (x y : DWord) :
    mulLong signed x y = BitVec.ofInt 64 (intW false signed x * intW false signed y) := by
  cases signed
  · exact (BitVec.ofInt_natCast ..).symm.trans (by push_cast; rfl)
  · rfl

theorem sub_ofInt {w : Nat} (a : BitVec w) (o : Int) : a - BitVec.ofInt w o = BitVec.ofInt w (a.toNat - o) := by
  rw [BitVec.sub_eq_add_neg, ← BitVec.ofInt_neg, add_ofInt, sub_eq_add_neg]

/-- Settles O58: each function of the registers is an exact integer at both widths. -/
theorem registerResultsW64 : Obligations.RegisterResultsW64 := by
  intro s put
  refine ⟨fun f => ?_, fun f => ?_, fun f => ?_, fun f => ?_, fun f => ⟨rfl, rfl⟩⟩
  · exact ⟨w64Select_eq (g := fun _ v => v) (h := id) f s fun w x => (ofInt_toNat x).symm,
      w64Select_eq (g := fun _ v => v + 1) (h := fun m => m + 1) f s fun w x => add_one_ofInt x,
      w64Select_eq (g := fun _ v => ~~~v) (h := fun m => -1 - m) f s fun w x => not_ofInt x,
      w64Select_eq (g := fun _ v => 0 - v) (h := fun m => -m) f s fun w x => neg_ofInt x⟩
  · intro n m amount
    refine ⟨?_, ?_, w64Two_shift .lsl f s, w64Two_shift .lsr f s, w64Two_shift .asr f s, w64Two_shift .ror f s⟩
    · dsimp only [exec, execW64UdivDp2]
      exact w64Two_eq f s (fun hsf => by rw [hsf]; exact udiv_ofInt ..) fun hsf => by rw [hsf]; exact udiv_ofInt ..
    · dsimp only [exec, execW64SdivDp2]
      exact w64Two_eq f s (fun hsf => by rw [hsf]; exact sdiv_ofInt ..) fun hsf => by rw [hsf]; exact sdiv_ofInt ..
  · intro v
    dsimp only [exec, execW64MaddDp3, execW64MsubDp3, w64Write]
    refine ⟨?_, ?_⟩
    · rw [atWidth_ofInt (v := v (s.getX f.ra) + v (s.getX f.rn) * v (s.getX f.rm))
        (fun hsf => by dsimp only [v]; rw [hsf]; exact mulAdd_ofInt ..)
        fun hsf => by dsimp only [v]; rw [hsf]; exact mulAdd_ofInt ..]
    · rw [atWidth_ofInt (v := v (s.getX f.ra) - v (s.getX f.rn) * v (s.getX f.rm))
        (fun hsf => by dsimp only [v]; rw [hsf]; exact mulSub_ofInt ..)
        fun hsf => by dsimp only [v]; rw [hsf]; exact mulSub_ofInt ..]
  · dsimp only [exec, execW64SmaddlDp3, execW64SmsublDp3, execW64UmaddlDp3, execW64UmsublDp3, w64Write]
    rw [mulLong_eq, mulLong_eq, add_ofInt, add_ofInt, sub_ofInt, sub_ofInt]
    exact ⟨rfl, rfl, rfl, rfl⟩

end Sys2Proof.Machine
end

section
/-! PROOFS. W64 loads and stores (48_w64.md section 10): the address forms in integer arithmetic, one register, literals
and pairs. -/

namespace Sys2Proof.Machine

variable {s : State}

/-! ### Addresses -/

theorem scaled_wide {n : Nat} (hn : n ≤ 64) (v : BitVec n) (k : Nat) :
    (v.setWidth 64 <<< k : DWord) = BitVec.ofNat 64 (v.toNat * 2 ^ k) := by
  apply BitVec.eq_of_toNat_eq
  rw [BitVec.toNat_shiftLeft, BitVec.toNat_setWidth, BitVec.toNat_ofNat, Nat.shiftLeft_eq,
    Nat.mod_eq_of_lt (lt_of_lt_of_le v.isLt (Nat.pow_le_pow_right (by decide) hn))]

/-- A register shifted left is the exact multiple, reduced. -/
theorem shiftLeft_ofInt {w : Nat} (v : BitVec w) (i : Int) (h : v = BitVec.ofInt w i) (k : Nat) :
    v <<< k = BitVec.ofInt w (i * 2 ^ k) := by
  rw [BitVec.shiftLeft_eq_mul_twoPow, h, BitVec.ofInt_mul]
  congr 1
  apply BitVec.eq_of_toNat_eq
  rw [BitVec.toNat_twoPow, show (2 : Int) ^ k = ((2 ^ k : Nat) : Int) by push_cast; rfl, BitVec.ofInt_natCast,
    BitVec.toNat_ofNat]

theorem w64Addr_unsigned (k : Nat) (rn rt : Fin 32) (imm12 : BitVec 12) (s : State) :
    w64Addr k ⟨rn, rt, .unsigned imm12⟩ s =
      ⟨BitVec.ofNat 64 ((s.getXsp rn).toNat + imm12.toNat * 2 ^ k), none⟩ := by
  dsimp only [w64Addr]
  rw [scaled_wide (by decide), add_ofNat]

theorem w64Addr_signed (k : Nat) (rn rt : Fin 32) (imm9 : BitVec 9) (idx : BitVec 2) (s : State) :
    w64Addr k ⟨rn, rt, .signed imm9 idx⟩ s =
      offsetFrom (s.getXsp rn) imm9.toInt (idx != 1) (idx == 1 || idx == 3) := by
  dsimp only [w64Addr]
  rw [resolveSingle_signed, BitVec.toInt_signExtend_of_le (by decide)]

theorem w64Addr_reg (k : Nat) (rn rt rm : Fin 32) (option : BitVec 3) (sc : Bool) (s : State) {v : Int}
    (hv : extendOffset option (s.getX rm) = BitVec.ofInt 64 v) :
    w64Addr k ⟨rn, rt, .reg rm option sc⟩ s =
      ⟨BitVec.ofInt 64 ((s.getXsp rn).toNat + v * if sc then 2 ^ k else 1), none⟩ := by
  dsimp only [w64Addr]
  rw [shiftLeft_ofInt _ v hv, add_ofInt]
  cases sc <;> rfl

theorem pairAddr_eq (f : W64.LSP) (s : State) : pairAddr f s =
    offsetFrom (s.getXsp f.rn) (f.imm7.toInt * if f.sf then 8 else 4) (f.idx != 1) (f.idx == 1 || f.idx == 3) := by
  have hoff : (f.imm7.signExtend 64 <<< (if f.sf then 3 else 2) : DWord).toInt = f.imm7.toInt * if f.sf then 8 else 4 := by
    have h1 := BitVec.toInt_lt (x := f.imm7)
    have h2 := BitVec.le_toInt f.imm7
    rw [signExtend_shiftLeft, BitVec.toInt_ofInt]
    cases f.sf <;> simp only [Bool.false_eq_true, if_false, if_true] <;> norm_num at h1 h2 ⊢ <;>
      exact Int.bmod_eq_of_le (by omega) (by omega)
  rw [pairAddr, resolveSingle_signed, hoff]

/-! ### One register -/

theorem loadsW64 {i : Instr} {k : Nat} {ext ext' : Nat → DWord} {f : W64.LS} (hi : exec i s = w64Load k ext f s)
    (hext : ∀ v, v < 2 ^ (8 * 2 ^ k) → ext v = ext' v) : LoadsW64 i s k ext' f := by
  intro hr
  rw [hi, w64Load_ok hr, hext _ (wideAt_lt ..)]

theorem storesW64 {i : Instr} {k : Nat} (hk : k ≤ 3) {f : W64.LS} (hi : exec i s = w64Store k f s) :
    StoresW64 i s k f := by
  intro hm hw
  rw [hi]
  exact w64Store_ok hk hm hw

/-! ### Literals and pairs -/

theorem w64Literal_ok {n : Nat} {ext : Nat → DWord} {f : W64.LIT}
    (hr : s.canRead64 (BitVec.ofInt 64 (s.pc.toNat + 4 * f.imm19.toInt)) n) :
    w64Literal n ext f s =
      .next (s.setX f.rt (ext (s.wideAt (BitVec.ofInt 64 (s.pc.toNat + 4 * f.imm19.toInt)) n))).nextW := by
  rw [w64Literal, literal_addr, load_ok hr]
  rfl

theorem pairBytes_le (f : W64.LSP) : pairBytes f ≤ 2 ^ 64 := by
  rw [pairBytes]
  split <;> decide

theorem ldp_ok {f : W64.LSP} (h1 : s.canRead64 (pairAddr f s).address (pairBytes f))
    (h2 : s.canRead64 ((pairAddr f s).address + BitVec.ofNat 64 (pairBytes f)) (pairBytes f)) :
    exec (.w64LdpLsp f) s = .next ((((s.writeBackX f.rn (pairAddr f s).newBase).setX f.rt
      (BitVec.ofNat 64 (s.wideAt (pairAddr f s).address (pairBytes f)))).setX f.rt2
      (BitVec.ofNat 64 (s.wideAt ((pairAddr f s).address + BitVec.ofNat 64 (pairBytes f)) (pairBytes f)))).nextW) := by
  dsimp only [exec, execW64LdpLsp]
  rw [load_ok h1]
  dsimp only
  rw [load_ok h2]
  rfl

theorem stp_ok {f : W64.LSP} (hm : Memory.wf s.mem = true) (h1 : s.canWrite64 (pairAddr f s).address (pairBytes f))
    (h2 : s.canWrite64 ((pairAddr f s).address + BitVec.ofNat 64 (pairBytes f)) (pairBytes f)) :
    ∃ m, exec (.w64StpLsp f) s = .next ((State.writeBackX { s with mem := m } f.rn (pairAddr f s).newBase).nextW) ∧
      ReadsAs m (storedOver (storedOver (Memory.get s.mem) s.cfg.endian 64 (pairAddr f s).address.toNat (pairBytes f)
        (s.getX f.rt).toNat) s.cfg.endian 64 ((pairAddr f s).address + BitVec.ofNat 64 (pairBytes f)).toNat (pairBytes f)
        (s.getX f.rt2).toNat) := by
  dsimp only [exec, execW64StpLsp]
  rw [store_ok h1]
  dsimp only
  rw [store_setMem_ok h2]
  refine ⟨_, rfl, ?_⟩
  have hfirst := Memory.get_store hm s.cfg.endian (bits := 64) le_rfl (pairAddr f s).address.isLt (pairBytes_le f)
    (s.getX f.rt).toNat
  rw [← show Memory.get _ = _ from funext hfirst]
  exact Memory.get_store (Memory.wf_store hm _ (by decide) _ _ _) _ (by decide) (BitVec.isLt _) (pairBytes_le f) _

/-- Settles O59: the address forms, then the shapes of one register, of a literal and of a pair. -/
theorem loadsAndStoresW64 : Obligations.LoadsAndStoresW64 := by
  refine ⟨fun s k rn rt _ => ⟨?_, ?_, ?_⟩, fun s f => ⟨?_, ?_, ?_⟩, fun s => ⟨fun f _ => ?_, fun f => ⟨?_, ?_⟩, fun f _ => ⟨?_, ?_⟩⟩⟩
  · exact fun imm12 => w64Addr_unsigned ..
  · exact fun imm9 => ⟨w64Addr_signed .., w64Addr_signed .., w64Addr_signed ..⟩
  · refine fun rm sc => ⟨w64Addr_reg _ _ _ _ _ _ _ ?_, w64Addr_reg _ _ _ _ _ _ _ ?_, w64Addr_reg _ _ _ _ _ _ _ ?_,
      w64Addr_reg _ _ _ _ _ _ _ ?_⟩
    · rw [← BitVec.toNat_setWidth, BitVec.ofInt_natCast]
      exact setWidth_eq_ofNat ..
    · exact (ofInt_toNat _).symm
    · rfl
    · exact (ofInt_toNat _).symm
  · intro h
    rw [pairAddr_eq, h]
    rfl
  · intro h
    rw [pairAddr_eq, h]
    rfl
  · intro h
    rw [pairAddr_eq, h]
    rfl
  · have same (ext : Nat → DWord) (k : Nat) : ∀ v, v < 2 ^ (8 * 2 ^ k) → ext v = ext v := fun _ _ => rfl
    have word (n v : Nat) (hn : 0 < n) (hv : v < 2 ^ (8 * n)) :
        sextWord (8 * n) v = (signedBytes 32 n v).setWidth 64 := congrArg _ (sextTo_eq n 32 v hn hv)
    exact ⟨loadsW64 rfl (same _ _), loadsW64 rfl (same _ _), loadsW64 rfl (same _ _), loadsW64 rfl (same _ _),
      loadsW64 rfl fun v hv => sextTo_eq 1 64 v (by decide) hv, loadsW64 rfl fun v hv => sextTo_eq 2 64 v (by decide) hv,
      loadsW64 rfl fun v hv => sextTo_eq 4 64 v (by decide) hv, loadsW64 rfl fun v hv => word 1 v (by decide) hv,
      loadsW64 rfl fun v hv => word 2 v (by decide) hv, storesW64 (by decide) rfl, storesW64 (by decide) rfl,
      storesW64 (by decide) rfl, storesW64 (by decide) rfl⟩
  · refine fun hr => ⟨w64Literal_ok hr, (w64Literal_ok hr).trans ?_⟩
    rw [sextTo_eq 4 64 _ (by decide) (wideAt_lt ..)]
  · exact fun hr => w64Literal_ok hr
  · exact fun h1 h2 => ldp_ok h1 h2
  · exact fun hm h1 h2 => stp_ok hm h1 h2

end Sys2Proof.Machine
end
